-- ==== Sys2Proof/Word.lean ====
section
/-!
DEFINITION. The word types of the block and the shape of one HOST bus access (spec/30_encoding.md R90,
spec/00_scope.md R11 and R12). Plain data only.
-/

namespace Sys2Proof

/-- A byte of RAM or of a packet (R12). -/
abbrev Byte := BitVec 8

/-- A 32-bit register value or bus address (R11, R70). -/
abbrev Word := BitVec 32

/-- The direction of a HOST bus access, `dir ∈ {RD, WR}` (R90). -/
inductive Dir where
  | rd
  | wr
deriving DecidableEq, Repr

/-- What an access asks of the register its address selects: a read, or a write of a data word. R90: `data` is
meaningful only for WR. -/
inductive BusOp where
  | rd
  | wr (data : Word)
deriving DecidableEq, Repr

/-- The width of an access. R77 and R92: only the 32-bit one has a meaning. -/
inductive AccessSize where
  | bits32
  | bits16
  | bits8
deriving DecidableEq, Repr

/-- One HOST access `(addr, dir, data)` of R90, with the width that R92 checks. -/
structure BusAccess where
  addr : Word
  size : AccessSize
  dir  : Dir
  data : Word
deriving DecidableEq, Repr

/-- The access codes of R91: R = read, W = write, W1 = write 1 to trigger, RW = both. -/
inductive AccessCode where
  | r
  | w
  | w1
  | rw
deriving DecidableEq, Repr

end Sys2Proof
end

