-- ==== Sys2Proof/Config.lean ====
section
/-!
DEFINITION. The memory map's parameters (spec/00_scope.md R10) with their defaults, and the free values: opaque
constants, with no body, for what the spec leaves to the environment or calls unspecified. Nothing in Lean can
evaluate one. The types of what the environment supplies stand here too.
-/

namespace Sys2Proof

/-- The four agents of R3. -/
inductive Agent where
  | host
  | radio
  | clock
  | air
deriving DecidableEq, Repr, Inhabited

/-- One transmission that AIR delivers, with everything the environment chooses about its reception (R137, R139,
R242, R243): the carrier and access address it is sent with, the bits that follow the access address (those past the
end of `bits` are `Config.freeAirBit`), the IQ words the receiver samples during the CTE, and the two draws of R139
for a LENGTH above MAXLEN. -/
structure AirFrame where
  carrier : Nat
  aa : Word
  bits : List Bool
  iq : List Word
  crcDraw : BitVec 24
  okDraw : Bool
deriving DecidableEq, Repr

/-- One record of `air_log` (R55, R136). -/
structure AirRecord where
  carrierMhz : Nat
  bits : List Bool
  cte8us : Nat
deriving DecidableEq, Repr

/-- The base addresses and the RAM region that R10 and R71 make parameters. A machine holds its own in
`State.memMap`, and no step changes them (assumption 1). -/
structure MemMap where
  /-- RAM_BASE. -/
  ramBase : Nat
  /-- RAM_SIZE. -/
  ramSize : Nat
  /-- RADIO_BASE. -/
  radioBase : Nat
  /-- CLOCK_BASE. -/
  clockBase : Nat
deriving DecidableEq, Repr

/-- The defaults of R10 and R71. -/
def MemMap.default : MemMap :=
  { ramBase := 0x20000000, ramSize := 0x20000, radioBase := 0x40001000, clockBase := 0x40000000 }

/-- The length of a block's window of addresses (R71). -/
abbrev blockSize : Nat := 0x1000

/-- Whether `[a, a + n)` and `[b, b + k)` have no address in common. -/
def rangesDisjoint (a n b k : Nat) : Bool := decide (a + n ≤ b) || decide (b + k ≤ a)

/-- The values the four parameters may take: three ranges of the 32-bit address space with no address in common (R70,
R71), the register windows at multiples of 4 (R77). R10 gives no bound of its own (assumption 1). -/
def MemMap.admitted (m : MemMap) : Bool :=
  decide (m.ramBase + m.ramSize ≤ 2 ^ 32) && decide (m.radioBase + blockSize ≤ 2 ^ 32) &&
  decide (m.clockBase + blockSize ≤ 2 ^ 32) && decide (m.radioBase % 4 = 0) && decide (m.clockBase % 4 = 0) &&
  rangesDisjoint m.clockBase blockSize m.radioBase blockSize &&
  rangesDisjoint m.clockBase blockSize m.ramBase m.ramSize &&
  rangesDisjoint m.radioBase blockSize m.ramBase m.ramSize

/-- FREE VALUE: which agent steps next once the state's own list of turns is used up (R80: any enabled agent may step
next). Argument: the step counter. -/
opaque Config.freeAgent : Nat → Agent

/-- FREE VALUE: what AIR puts on the ether when the state's own list of transmissions is used up; `none` is silence
(R137: AIR may never deliver a frame). Argument: the step counter. -/
opaque Config.freeAir : Nat → Option AirFrame

/-- FREE VALUE: the on-air bits of `rx_stream` past the bits an `AirFrame` lists (R137). Arguments: the step at which
the frame was delivered, the bit's position in the stream. -/
opaque Config.freeAirBit : Nat → Nat → Bool

/-- FREE VALUE: what a RAM byte that nothing has written reads as (R290: RAM contents are unspecified, any value).
Argument: the address. -/
opaque Config.ramAtReset : Nat → Byte

/-- FREE VALUE: a HOST word variable that no `R` statement has bound (R104 gives it no value). -/
opaque Config.unboundWord : Nat → Word

/-- FREE VALUE: a byte of a HOST byte variable that no `L` statement has bound, or past the end of what was loaded
(R104 gives it no value). Arguments: the variable, the index. -/
opaque Config.unboundByte : Nat → Nat → Byte

end Sys2Proof
end

