-- ==== Sys2Proof/Syntax.lean ====
section
/-!
DEFINITION. The instructions of the block: one constructor per row of spec/opcode_table.json. A register row is one
HOST bus access to that register (R3, R90, R91) and carries what the access asks (`BusOp`: a read, or a write of a
data word); the row PDU_HEADER.ADV_NONCONN_IND is the PDU that its header byte opens (R94, R95), with the fields
that follow the header in the packet buffer.
-/

namespace Sys2Proof

/-- The block's instructions (R3, R91, R95, R107). -/
inductive Instr where
  /-- CLOCK.TASKS_HFCLKSTART, R171; state R22; access W1. -/
  | clockTasksHfclkstart (op : BusOp)
  /-- CLOCK.EVENTS_HFCLKSTARTED, R174; state R23; access RW. -/
  | clockEventsHfclkstarted (op : BusOp)
  /-- RADIO.TASKS_TXEN, R182; state R24; access W1. -/
  | tasksTxen (op : BusOp)
  /-- RADIO.TASKS_RXEN, R183; state R24; access W1. -/
  | tasksRxen (op : BusOp)
  /-- RADIO.TASKS_START, R184; state R24; access W1. -/
  | tasksStart (op : BusOp)
  /-- RADIO.TASKS_STOP, R185; state R24; access W1. -/
  | tasksStop (op : BusOp)
  /-- RADIO.TASKS_DISABLE, R186; state R24; access W1. -/
  | tasksDisable (op : BusOp)
  /-- RADIO.EVENTS_READY, R192; state R25; access RW. -/
  | eventsReady (op : BusOp)
  /-- RADIO.EVENTS_ADDRESS, R193; state R25; access RW. -/
  | eventsAddress (op : BusOp)
  /-- RADIO.EVENTS_PAYLOAD, R194; state R25; access RW. -/
  | eventsPayload (op : BusOp)
  /-- RADIO.EVENTS_END, R195; state R25; access RW. -/
  | eventsEnd (op : BusOp)
  /-- RADIO.EVENTS_DISABLED, R196; state R25; access RW. -/
  | eventsDisabled (op : BusOp)
  /-- RADIO.EVENTS_CRCOK, R197; state R25; access RW. -/
  | eventsCrcok (op : BusOp)
  /-- RADIO.EVENTS_CRCERROR, R198; state R25; access RW. -/
  | eventsCrcerror (op : BusOp)
  /-- RADIO.EVENTS_PHYEND, R199; state R25; access RW. -/
  | eventsPhyend (op : BusOp)
  /-- RADIO.SHORTS, R188; state R26; access RW. -/
  | shorts (op : BusOp)
  /-- RADIO.INTENSET, R273; state R27; access RW. -/
  | intenset (op : BusOp)
  /-- RADIO.INTENCLR, R273; state R27; access RW. -/
  | intenclr (op : BusOp)
  /-- RADIO.CRCSTATUS, R216; state R28; access R. -/
  | crcstatus (op : BusOp)
  /-- RADIO.RXMATCH, R217; state R29; access R. -/
  | rxmatch (op : BusOp)
  /-- RADIO.RXCRC, R218; state R30; access R. -/
  | rxcrc (op : BusOp)
  /-- RADIO.PACKETPTR, R200; state R33; access RW. -/
  | packetptr (op : BusOp)
  /-- RADIO.FREQUENCY, R201; state R34; access RW. -/
  | frequency (op : BusOp)
  /-- RADIO.TXPOWER, R202; state R35; access RW. -/
  | txpower (op : BusOp)
  /-- RADIO.MODE, R203; state R36; access RW. -/
  | mode (op : BusOp)
  /-- RADIO.PCNF0, R204; state R37; access RW. -/
  | pcnf0 (op : BusOp)
  /-- RADIO.PCNF1, R205; state R38; access RW. -/
  | pcnf1 (op : BusOp)
  /-- RADIO.BASE0, R206; state R39; access RW. -/
  | base0 (op : BusOp)
  /-- RADIO.BASE1, R207; state R39; access RW. -/
  | base1 (op : BusOp)
  /-- RADIO.PREFIX0, R208; state R39; access RW. -/
  | prefix0 (op : BusOp)
  /-- RADIO.PREFIX1, R209; state R39; access RW. -/
  | prefix1 (op : BusOp)
  /-- RADIO.TXADDRESS, R210; state R40; access RW. -/
  | txaddress (op : BusOp)
  /-- RADIO.RXADDRESSES, R211; state R40; access RW. -/
  | rxaddresses (op : BusOp)
  /-- RADIO.CRCCNF, R212; state R41; access RW. -/
  | crccnf (op : BusOp)
  /-- RADIO.CRCPOLY, R213; state R41; access RW. -/
  | crcpoly (op : BusOp)
  /-- RADIO.CRCINIT, R214; state R41; access RW. -/
  | crcinit (op : BusOp)
  /-- RADIO.STATE, R219; state R32; access R. -/
  | state (op : BusOp)
  /-- RADIO.DATAWHITEIV, R215; state R42; access RW. -/
  | datawhiteiv (op : BusOp)
  /-- RADIO.DFEMODE, R232; state R44; access RW. -/
  | dfemode (op : BusOp)
  /-- RADIO.CTEINLINECONF, R233; state R45; access RW. -/
  | cteinlineconf (op : BusOp)
  /-- RADIO.DFECTRL1, R234; state R46; access RW. -/
  | dfectrl1 (op : BusOp)
  /-- RADIO.DFECTRL2, R235; state R47; access RW. -/
  | dfectrl2 (op : BusOp)
  /-- RADIO.SWITCHPATTERN, R236; state R48; access W. -/
  | switchpattern (op : BusOp)
  /-- RADIO.CLEARPATTERN, R237; state R48; access W1. -/
  | clearpattern (op : BusOp)
  /-- RADIO.PSEL.DFEGPIO[0], R238; state R48; access RW. -/
  | pselDfegpio0 (op : BusOp)
  /-- RADIO.PSEL.DFEGPIO[1], R238; state R48; access RW. -/
  | pselDfegpio1 (op : BusOp)
  /-- RADIO.PSEL.DFEGPIO[2], R238; state R48; access RW. -/
  | pselDfegpio2 (op : BusOp)
  /-- RADIO.PSEL.DFEGPIO[3], R238; state R48; access RW. -/
  | pselDfegpio3 (op : BusOp)
  /-- RADIO.PSEL.DFEGPIO[4], R238; state R48; access RW. -/
  | pselDfegpio4 (op : BusOp)
  /-- RADIO.PSEL.DFEGPIO[5], R238; state R48; access RW. -/
  | pselDfegpio5 (op : BusOp)
  /-- RADIO.PSEL.DFEGPIO[6], R238; state R48; access RW. -/
  | pselDfegpio6 (op : BusOp)
  /-- RADIO.PSEL.DFEGPIO[7], R238; state R48; access RW. -/
  | pselDfegpio7 (op : BusOp)
  /-- RADIO.DFEPACKET.PTR, R239; state R49; access RW. -/
  | dfepacketPtr (op : BusOp)
  /-- RADIO.DFEPACKET.MAXCNT, R240; state R49; access RW. -/
  | dfepacketMaxcnt (op : BusOp)
  /-- RADIO.DFEPACKET.AMOUNT, R246; state R31; access R. -/
  | dfepacketAmount (op : BusOp)
  /-- RADIO.POWER, R173; state R43; access RW. -/
  | power (op : BusOp)
  /-- PDU_HEADER.ADV_NONCONN_IND, R95: LENGTH (R97), AdvA as a 48-bit value, byte k in bits 8k+7..8k (R74, R98), and the AdvData bytes in buffer order (R99). -/
  | advNonconnInd (length : Byte) (advA : BitVec 48) (advData : List Byte)
deriving DecidableEq, Repr

end Sys2Proof
end

