-- ==== Sys2Proof/WellFormed.lean ====
section
/-!
DEFINITION. Which instructions are well formed. A register access is well formed when its direction is one the
register's access code admits (R91, R92); a PDU is well formed when the buffer holds every AdvData byte that its
LENGTH announces, as far as the decoder reads (R140, R141).
-/

namespace Sys2Proof

/-- The access code R91 gives the register of an access; none for the PDU row, which is no register. -/
def Instr.access : Instr → Option AccessCode
  | .clockTasksHfclkstart _ => some .w1
  | .clockEventsHfclkstarted _ => some .rw
  | .tasksTxen _ => some .w1
  | .tasksRxen _ => some .w1
  | .tasksStart _ => some .w1
  | .tasksStop _ => some .w1
  | .tasksDisable _ => some .w1
  | .eventsReady _ => some .rw
  | .eventsAddress _ => some .rw
  | .eventsPayload _ => some .rw
  | .eventsEnd _ => some .rw
  | .eventsDisabled _ => some .rw
  | .eventsCrcok _ => some .rw
  | .eventsCrcerror _ => some .rw
  | .eventsPhyend _ => some .rw
  | .shorts _ => some .rw
  | .intenset _ => some .rw
  | .intenclr _ => some .rw
  | .crcstatus _ => some .r
  | .rxmatch _ => some .r
  | .rxcrc _ => some .r
  | .packetptr _ => some .rw
  | .frequency _ => some .rw
  | .txpower _ => some .rw
  | .mode _ => some .rw
  | .pcnf0 _ => some .rw
  | .pcnf1 _ => some .rw
  | .base0 _ => some .rw
  | .base1 _ => some .rw
  | .prefix0 _ => some .rw
  | .prefix1 _ => some .rw
  | .txaddress _ => some .rw
  | .rxaddresses _ => some .rw
  | .crccnf _ => some .rw
  | .crcpoly _ => some .rw
  | .crcinit _ => some .rw
  | .state _ => some .r
  | .datawhiteiv _ => some .rw
  | .dfemode _ => some .rw
  | .cteinlineconf _ => some .rw
  | .dfectrl1 _ => some .rw
  | .dfectrl2 _ => some .rw
  | .switchpattern _ => some .w
  | .clearpattern _ => some .w1
  | .pselDfegpio0 _ => some .rw
  | .pselDfegpio1 _ => some .rw
  | .pselDfegpio2 _ => some .rw
  | .pselDfegpio3 _ => some .rw
  | .pselDfegpio4 _ => some .rw
  | .pselDfegpio5 _ => some .rw
  | .pselDfegpio6 _ => some .rw
  | .pselDfegpio7 _ => some .rw
  | .dfepacketPtr _ => some .rw
  | .dfepacketMaxcnt _ => some .rw
  | .dfepacketAmount _ => some .r
  | .power _ => some .rw
  | .advNonconnInd _ _ _ => none

/-- What the access asks; none for the PDU row. -/
def Instr.op : Instr → Option BusOp
  | .clockTasksHfclkstart op => some op
  | .clockEventsHfclkstarted op => some op
  | .tasksTxen op => some op
  | .tasksRxen op => some op
  | .tasksStart op => some op
  | .tasksStop op => some op
  | .tasksDisable op => some op
  | .eventsReady op => some op
  | .eventsAddress op => some op
  | .eventsPayload op => some op
  | .eventsEnd op => some op
  | .eventsDisabled op => some op
  | .eventsCrcok op => some op
  | .eventsCrcerror op => some op
  | .eventsPhyend op => some op
  | .shorts op => some op
  | .intenset op => some op
  | .intenclr op => some op
  | .crcstatus op => some op
  | .rxmatch op => some op
  | .rxcrc op => some op
  | .packetptr op => some op
  | .frequency op => some op
  | .txpower op => some op
  | .mode op => some op
  | .pcnf0 op => some op
  | .pcnf1 op => some op
  | .base0 op => some op
  | .base1 op => some op
  | .prefix0 op => some op
  | .prefix1 op => some op
  | .txaddress op => some op
  | .rxaddresses op => some op
  | .crccnf op => some op
  | .crcpoly op => some op
  | .crcinit op => some op
  | .state op => some op
  | .datawhiteiv op => some op
  | .dfemode op => some op
  | .cteinlineconf op => some op
  | .dfectrl1 op => some op
  | .dfectrl2 op => some op
  | .switchpattern op => some op
  | .clearpattern op => some op
  | .pselDfegpio0 op => some op
  | .pselDfegpio1 op => some op
  | .pselDfegpio2 op => some op
  | .pselDfegpio3 op => some op
  | .pselDfegpio4 op => some op
  | .pselDfegpio5 op => some op
  | .pselDfegpio6 op => some op
  | .pselDfegpio7 op => some op
  | .dfepacketPtr op => some op
  | .dfepacketMaxcnt op => some op
  | .dfepacketAmount op => some op
  | .power op => some op
  | .advNonconnInd _ _ _ => none

/-- R92: a RD of a register whose access is W or W1, and a WR of a register whose access is R, are refused. -/
def AccessCode.allows : AccessCode → BusOp → Bool
  | .r, .rd => true
  | .r, .wr _ => false
  | .w, .rd => false
  | .w, .wr _ => true
  | .w1, .rd => false
  | .w1, .wr _ => true
  | .rw, _ => true

/-- The AdvData bytes the decoder reads for a LENGTH byte: LENGTH - 6, clamped to 31 (R141), and none when LENGTH
is below 6 (R140). -/
def advDataRead (length : Byte) : Nat := min (length.toNat - 6) 31

/-- Well-formedness: the direction check of R92 for a register access, the buffer-length check of R140 for a PDU. -/
def Instr.wf : Instr → Bool
  | .advNonconnInd length _ advData => decide (advDataRead length ≤ advData.length)
  | i =>
    match i.access, i.op with
    | some c, some op => c.allows op
    | _, _ => true

end Sys2Proof
end

