-- ==== Sys2Proof/Decode.lean ====
section
/-!
DEFINITION. The decoder and, after it, the encoder. A bus access is decoded by looking its address up in the register
map of R91 (R90, R107); a packet buffer is decoded by its header byte (R95, R96, R140). The decoder is total and
rejects by name. The encoder is written from the same tables.
-/

namespace Sys2Proof

/-- The two register blocks of R71. -/
inductive Block where
  | clock
  | radio
deriving DecidableEq, Repr

/-- The base address of a block (R10, R71). -/
def MemMap.base (m : MemMap) : Block → Nat
  | .clock => m.clockBase
  | .radio => m.radioBase

/-- R70, R71: the block whose window holds an address, and the offset in it; none outside the two windows. -/
def MemMap.locate (m : MemMap) (addr : Nat) : Option (Block × Nat) :=
  if m.clockBase ≤ addr ∧ addr < m.clockBase + blockSize then some (.clock, addr - m.clockBase)
  else if m.radioBase ≤ addr ∧ addr < m.radioBase + blockSize then some (.radio, addr - m.radioBase)
  else none

/-- One row of the register map of R91: the block and the offset, the access code and the instruction an access to it
is. -/
structure RegRow where
  block : Block
  offset : Nat
  access : AccessCode
  make : BusOp → Instr

/-- R91: the CLOCK block. -/
def clockRows : List RegRow :=
  [⟨.clock, 0x000, .w1, .clockTasksHfclkstart⟩,
   ⟨.clock, 0x100, .rw, .clockEventsHfclkstarted⟩]

/-- R91: the RADIO task registers. -/
def taskRows : List RegRow :=
  [⟨.radio, 0x000, .w1, .tasksTxen⟩,
   ⟨.radio, 0x004, .w1, .tasksRxen⟩,
   ⟨.radio, 0x008, .w1, .tasksStart⟩,
   ⟨.radio, 0x00C, .w1, .tasksStop⟩,
   ⟨.radio, 0x010, .w1, .tasksDisable⟩]

/-- R91: the RADIO event registers. -/
def eventRows : List RegRow :=
  [⟨.radio, 0x100, .rw, .eventsReady⟩,
   ⟨.radio, 0x104, .rw, .eventsAddress⟩,
   ⟨.radio, 0x108, .rw, .eventsPayload⟩,
   ⟨.radio, 0x10C, .rw, .eventsEnd⟩,
   ⟨.radio, 0x110, .rw, .eventsDisabled⟩,
   ⟨.radio, 0x130, .rw, .eventsCrcok⟩,
   ⟨.radio, 0x134, .rw, .eventsCrcerror⟩,
   ⟨.radio, 0x16C, .rw, .eventsPhyend⟩]

/-- R91: shortcuts, interrupt enables and status. -/
def controlRows : List RegRow :=
  [⟨.radio, 0x200, .rw, .shorts⟩,
   ⟨.radio, 0x304, .rw, .intenset⟩,
   ⟨.radio, 0x308, .rw, .intenclr⟩,
   ⟨.radio, 0x400, .r, .crcstatus⟩,
   ⟨.radio, 0x408, .r, .rxmatch⟩,
   ⟨.radio, 0x40C, .r, .rxcrc⟩]

/-- R91: the RADIO configuration registers. -/
def configRows : List RegRow :=
  [⟨.radio, 0x504, .rw, .packetptr⟩,
   ⟨.radio, 0x508, .rw, .frequency⟩,
   ⟨.radio, 0x50C, .rw, .txpower⟩,
   ⟨.radio, 0x510, .rw, .mode⟩,
   ⟨.radio, 0x514, .rw, .pcnf0⟩,
   ⟨.radio, 0x518, .rw, .pcnf1⟩,
   ⟨.radio, 0x51C, .rw, .base0⟩,
   ⟨.radio, 0x520, .rw, .base1⟩,
   ⟨.radio, 0x524, .rw, .prefix0⟩,
   ⟨.radio, 0x528, .rw, .prefix1⟩,
   ⟨.radio, 0x52C, .rw, .txaddress⟩,
   ⟨.radio, 0x530, .rw, .rxaddresses⟩,
   ⟨.radio, 0x534, .rw, .crccnf⟩,
   ⟨.radio, 0x538, .rw, .crcpoly⟩,
   ⟨.radio, 0x53C, .rw, .crcinit⟩,
   ⟨.radio, 0x550, .r, .state⟩,
   ⟨.radio, 0x554, .rw, .datawhiteiv⟩]

/-- R91: the direction-finding registers. -/
def dfeRows : List RegRow :=
  [⟨.radio, 0x900, .rw, .dfemode⟩,
   ⟨.radio, 0x904, .rw, .cteinlineconf⟩,
   ⟨.radio, 0x910, .rw, .dfectrl1⟩,
   ⟨.radio, 0x914, .rw, .dfectrl2⟩,
   ⟨.radio, 0x950, .rw, .dfepacketPtr⟩,
   ⟨.radio, 0x954, .rw, .dfepacketMaxcnt⟩,
   ⟨.radio, 0x958, .r, .dfepacketAmount⟩]

/-- R91: antenna switching. -/
def antennaRows : List RegRow :=
  [⟨.radio, 0x928, .w, .switchpattern⟩,
   ⟨.radio, 0x92C, .w1, .clearpattern⟩,
   ⟨.radio, 0x930, .rw, .pselDfegpio0⟩,
   ⟨.radio, 0x934, .rw, .pselDfegpio1⟩,
   ⟨.radio, 0x938, .rw, .pselDfegpio2⟩,
   ⟨.radio, 0x93C, .rw, .pselDfegpio3⟩,
   ⟨.radio, 0x940, .rw, .pselDfegpio4⟩,
   ⟨.radio, 0x944, .rw, .pselDfegpio5⟩,
   ⟨.radio, 0x948, .rw, .pselDfegpio6⟩,
   ⟨.radio, 0x94C, .rw, .pselDfegpio7⟩]

/-- R91: POWER. -/
def powerRows : List RegRow :=
  [⟨.radio, 0xFFC, .rw, .power⟩]

/-- R91: the whole register map. -/
def regTable : List RegRow :=
  clockRows ++ taskRows ++ eventRows ++ controlRows ++ configRows ++ dfeRows ++ antennaRows ++ powerRows

/-- R91: the bus address of a row's register. -/
def RegRow.addr (m : MemMap) (row : RegRow) : Nat := m.base row.block + row.offset

/-- The row of the register map at a block's offset (R71: only the listed offsets are decoded). -/
def findRow (b : Block) (offset : Nat) : Option RegRow :=
  regTable.find? fun row => decide (row.block = b) && row.offset == offset

/-- Why the decoder rejects (R92, R96, R107). -/
inductive DecodeError where
  /-- R92: an access whose width is not 32 bits. -/
  | badWidth
  /-- R92: an address that is not a multiple of 4. -/
  | misaligned
  /-- R92: an offset of a block that the register map does not list. -/
  | unlisted (addr : Word)
  /-- R107: an address outside the two blocks (assumption 16). -/
  | outsideBlocks (addr : Word)
  /-- R96, R140: a header byte other than 0x42 is "no match". -/
  | otherHeader (s0 : Byte)
  /-- R140: fewer than the 8 bytes of header, LENGTH and AdvA. -/
  | shortPdu
deriving DecidableEq, Repr

/-- What an access asks of the register (R90: `data` is meaningful only for WR). -/
def BusAccess.op (a : BusAccess) : BusOp :=
  match a.dir with
  | .rd => .rd
  | .wr => .wr a.data

/-- R90 to R92 and R107: an access is a 32-bit, aligned one to a listed address; the direction is checked with the
register's meaning (assumption 28). -/
def decodeAccess (m : MemMap) (a : BusAccess) : Except DecodeError Instr :=
  if a.size ≠ .bits32 then .error .badWidth
  else if a.addr.toNat % 4 ≠ 0 then .error .misaligned
  else
    match m.locate a.addr.toNat with
    | some (b, offset) =>
      match findRow b offset with
      | some row => .ok (row.make a.op)
      | none => .error (.unlisted a.addr)
    | none => .error (.outsideBlocks a.addr)

/-- R95: the header byte from its fields, PDU type in [3:0], RFU [4], ChSel [5], TxAdd [6], RxAdd [7]. -/
def headerByte (pduType : BitVec 4) (rfu chSel txAdd rxAdd : Bool) : Byte :=
  BitVec.ofBool rxAdd ++ BitVec.ofBool txAdd ++ BitVec.ofBool chSel ++ BitVec.ofBool rfu ++ pduType

/-- R95: the header of ADV_NONCONN_IND, type 2, RFU 0, ChSel 0, TxAdd 1, RxAdd 0; it is 0x42. -/
def advHeader : Byte := headerByte 2#4 false false true false

/-- R74, R98: AdvA's six bytes, byte 0 the least significant. -/
def packAdvA (a0 a1 a2 a3 a4 a5 : Byte) : BitVec 48 := a5 ++ a4 ++ a3 ++ a2 ++ a1 ++ a0

/-- R74: `AdvA[k] = A[8k+7:8k]`. -/
def advAByte (a : BitVec 48) (k : Nat) : Byte := a.extractLsb' (8 * k) 8

/-- R98: the six bytes of an advertiser address in buffer order. -/
def advABytes (a : BitVec 48) : List Byte :=
  [advAByte a 0, advAByte a 1, advAByte a 2, advAByte a 3, advAByte a 4, advAByte a 5]

/-- R95, R96, R140: a packet buffer is an ADV_NONCONN_IND PDU exactly when its header byte is 0x42. -/
def decodePdu : List Byte → Except DecodeError Instr
  | s0 :: length :: a0 :: a1 :: a2 :: a3 :: a4 :: a5 :: advData =>
    if s0 = advHeader then .ok (.advNonconnInd length (packAdvA a0 a1 a2 a3 a4 a5) advData)
    else .error (.otherHeader s0)
  | s0 :: _ => if s0 = advHeader then .error .shortPdu else .error (.otherHeader s0)
  | [] => .error .shortPdu

/-- The two encodings of spec/30_encoding.md: a bus access, or a packet-buffer image. -/
inductive Code where
  | bus (a : BusAccess)
  | pdu (bytes : List Byte)
deriving DecidableEq, Repr

/-- The decoder: total on every code, rejecting by name. A packet image decodes alike on every memory map. -/
def decode (m : MemMap) : Code → Except DecodeError Instr
  | .bus a => decodeAccess m a
  | .pdu bytes => decodePdu bytes

/-! ### The bits of an access, numbered as spec/opcode_table.json numbers them (assumption 2) -/

/-- The direction an access takes when its bits give none: RD at a register that R91 only reads, WR elsewhere
(assumption 2). -/
def defaultDir (addr : Nat) : Dir :=
  match regTable.find? (fun row => row.addr MemMap.default == addr) with
  | some row => if row.access = .r then .rd else .wr
  | none => .wr

/-- Direction from bits 33..32 of an access's bits: 1 is RD, 2 is WR, anything else gives none (assumption 2). -/
def dirOfBits (k addr : Nat) : Dir :=
  match k with
  | 1 => .rd
  | 2 => .wr
  | _ => defaultDir addr

/-- Width from bits 35..34 of an access's bits: 0 is the 32-bit word (assumption 2). -/
def sizeOfBits (k : Nat) : AccessSize :=
  match k with
  | 0 => .bits32
  | 1 => .bits16
  | _ => .bits8

/-- The access whose bits are `v`: the address in bits 31..0, the direction in bits 33..32, the width in bits 35..34,
the data word in bits 95..64 (assumption 2). -/
def accessOfBits (v : Nat) : BusAccess :=
  { addr := BitVec.ofNat 32 v
    size := sizeOfBits (v / 2 ^ 34 % 4)
    dir := dirOfBits (v / 2 ^ 32 % 4) (v % 2 ^ 32)
    data := BitVec.ofNat 32 (v / 2 ^ 64) }

/-- The first `n` bytes of the bits `v`, the least significant byte first. -/
def bytesOfBits : Nat → Nat → List Byte
  | 0, _ => []
  | n + 1, v => BitVec.ofNat 8 v :: bytesOfBits n (v / 256)

/-- The length in bytes of the packet image the decoder reads: header, LENGTH, AdvA and at most 31 bytes of AdvData
(R140: all indexes are below 8 + 31 = 39). -/
def pduImageLength : Nat := 39

/-- The code whose bits are `w`, `nbits` of them given by the table and every bit above them 0. A row of at most 8
bits is the PDU row, whose table bits are the S0 byte (R107); every other row is a bus access. -/
def codeOfTableWord (nbits w : Nat) : Code :=
  if nbits ≤ 8 then .pdu (bytesOfBits pduImageLength (w % 2 ^ nbits))
  else .bus (accessOfBits (w % 2 ^ nbits))

/-- The instruction this decoder reads from an instruction whose bits are `w`; spec/opcode_table.json gives the
addresses at the default bases. -/
def decodeTableWord (nbits w : Nat) : Option Instr :=
  match decode MemMap.default (codeOfTableWord nbits w) with
  | .ok i => some i
  | .error _ => none

/-! ### The encoder -/

/-- R91: the block and the offset of the register an instruction accesses; none for the PDU row. -/
def Instr.home : Instr → Option (Block × Nat)
  | .clockTasksHfclkstart _ => some (.clock, 0x000)
  | .clockEventsHfclkstarted _ => some (.clock, 0x100)
  | .tasksTxen _ => some (.radio, 0x000)
  | .tasksRxen _ => some (.radio, 0x004)
  | .tasksStart _ => some (.radio, 0x008)
  | .tasksStop _ => some (.radio, 0x00C)
  | .tasksDisable _ => some (.radio, 0x010)
  | .eventsReady _ => some (.radio, 0x100)
  | .eventsAddress _ => some (.radio, 0x104)
  | .eventsPayload _ => some (.radio, 0x108)
  | .eventsEnd _ => some (.radio, 0x10C)
  | .eventsDisabled _ => some (.radio, 0x110)
  | .eventsCrcok _ => some (.radio, 0x130)
  | .eventsCrcerror _ => some (.radio, 0x134)
  | .eventsPhyend _ => some (.radio, 0x16C)
  | .shorts _ => some (.radio, 0x200)
  | .intenset _ => some (.radio, 0x304)
  | .intenclr _ => some (.radio, 0x308)
  | .crcstatus _ => some (.radio, 0x400)
  | .rxmatch _ => some (.radio, 0x408)
  | .rxcrc _ => some (.radio, 0x40C)
  | .packetptr _ => some (.radio, 0x504)
  | .frequency _ => some (.radio, 0x508)
  | .txpower _ => some (.radio, 0x50C)
  | .mode _ => some (.radio, 0x510)
  | .pcnf0 _ => some (.radio, 0x514)
  | .pcnf1 _ => some (.radio, 0x518)
  | .base0 _ => some (.radio, 0x51C)
  | .base1 _ => some (.radio, 0x520)
  | .prefix0 _ => some (.radio, 0x524)
  | .prefix1 _ => some (.radio, 0x528)
  | .txaddress _ => some (.radio, 0x52C)
  | .rxaddresses _ => some (.radio, 0x530)
  | .crccnf _ => some (.radio, 0x534)
  | .crcpoly _ => some (.radio, 0x538)
  | .crcinit _ => some (.radio, 0x53C)
  | .state _ => some (.radio, 0x550)
  | .datawhiteiv _ => some (.radio, 0x554)
  | .dfemode _ => some (.radio, 0x900)
  | .cteinlineconf _ => some (.radio, 0x904)
  | .dfectrl1 _ => some (.radio, 0x910)
  | .dfectrl2 _ => some (.radio, 0x914)
  | .switchpattern _ => some (.radio, 0x928)
  | .clearpattern _ => some (.radio, 0x92C)
  | .pselDfegpio0 _ => some (.radio, 0x930)
  | .pselDfegpio1 _ => some (.radio, 0x934)
  | .pselDfegpio2 _ => some (.radio, 0x938)
  | .pselDfegpio3 _ => some (.radio, 0x93C)
  | .pselDfegpio4 _ => some (.radio, 0x940)
  | .pselDfegpio5 _ => some (.radio, 0x944)
  | .pselDfegpio6 _ => some (.radio, 0x948)
  | .pselDfegpio7 _ => some (.radio, 0x94C)
  | .dfepacketPtr _ => some (.radio, 0x950)
  | .dfepacketMaxcnt _ => some (.radio, 0x954)
  | .dfepacketAmount _ => some (.radio, 0x958)
  | .power _ => some (.radio, 0xFFC)
  | .advNonconnInd _ _ _ => none

/-- R90: the access with an operation; a RD carries no data (0 here). -/
def BusOp.access (addr : Word) : BusOp → BusAccess
  | .rd => { addr := addr, size := .bits32, dir := .rd, data := 0#32 }
  | .wr d => { addr := addr, size := .bits32, dir := .wr, data := d }

/-- The bus access of a register instruction (R90, R91, R93); none for the PDU row. -/
def Instr.busAccess (m : MemMap) (i : Instr) : Option BusAccess :=
  match i.home, i.op with
  | some (b, offset), some op => some (op.access (BitVec.ofNat 32 (m.base b + offset)))
  | _, _ => none

/-- The packet-buffer image of R94 to R99: `[header, LENGTH, AdvA[0..5], AdvData…]`. -/
def pduImage (length : Byte) (advA : BitVec 48) (advData : List Byte) : List Byte :=
  advHeader :: length :: (advABytes advA ++ advData)

/-- The encoder: the code of an instruction, on a machine with this memory map. -/
def encode (m : MemMap) (i : Instr) : Code :=
  match i with
  | .advNonconnInd length advA advData => .pdu (pduImage length advA advData)
  | i =>
    match i.busAccess m with
    | some a => .bus a
    | none => .pdu []

/-- The bits of an access, the inverse layout of `accessOfBits` (assumption 2). -/
def bitsOfAccess (a : BusAccess) : Nat :=
  let dir := match a.dir with
    | .rd => 1
    | .wr => 2
  let size := match a.size with
    | .bits32 => 0
    | .bits16 => 1
    | .bits8 => 2
  a.addr.toNat + dir * 2 ^ 32 + size * 2 ^ 34 + a.data.toNat * 2 ^ 64

end Sys2Proof
end

