-- ==== Sys2Proof/Machine/State.lean ====
section
/-!
DEFINITION. The machine's state as plain data: every register of R22 to R49, the hidden and sequencing state of R50 to
R55, RAM, the HOST's script, AIR's input, and what is left of the run (fault, refusal). Faults and refusals are those
of R272. The updates of this state are in Machine/Ops.lean.
-/

namespace Sys2Proof.Machine

/-! ### Names of registers, events, states -/

/-- The configuration registers as R179 lists them: those a HOST write stores. -/
inductive CfgReg where
  | shorts
  | packetptr
  | frequency
  | txpower
  | mode
  | pcnf0
  | pcnf1
  | base0
  | base1
  | prefix0
  | prefix1
  | txaddress
  | rxaddresses
  | crccnf
  | crcpoly
  | crcinit
  | datawhiteiv
  | dfemode
  | cteinlineconf
  | dfectrl1
  | dfectrl2
  | pselDfegpio0
  | pselDfegpio1
  | pselDfegpio2
  | pselDfegpio3
  | pselDfegpio4
  | pselDfegpio5
  | pselDfegpio6
  | pselDfegpio7
  | dfepacketPtr
  | dfepacketMaxcnt
deriving DecidableEq, Repr

/-- One value for each configuration register, under the register's own name. -/
structure RegFile (α : Type) where
  /-- SHORTS, R26. -/
  shorts : α
  /-- PACKETPTR, R33. -/
  packetptr : α
  /-- FREQUENCY, R34. -/
  frequency : α
  /-- TXPOWER, R35. -/
  txpower : α
  /-- MODE, R36. -/
  mode : α
  /-- PCNF0, R37. -/
  pcnf0 : α
  /-- PCNF1, R38. -/
  pcnf1 : α
  /-- BASE0, R39. -/
  base0 : α
  /-- BASE1, R39. -/
  base1 : α
  /-- PREFIX0, R39. -/
  prefix0 : α
  /-- PREFIX1, R39. -/
  prefix1 : α
  /-- TXADDRESS, R40. -/
  txaddress : α
  /-- RXADDRESSES, R40. -/
  rxaddresses : α
  /-- CRCCNF, R41. -/
  crccnf : α
  /-- CRCPOLY, R41. -/
  crcpoly : α
  /-- CRCINIT, R41. -/
  crcinit : α
  /-- DATAWHITEIV, R42. -/
  datawhiteiv : α
  /-- DFEMODE, R44. -/
  dfemode : α
  /-- CTEINLINECONF, R45. -/
  cteinlineconf : α
  /-- DFECTRL1, R46. -/
  dfectrl1 : α
  /-- DFECTRL2, R47. -/
  dfectrl2 : α
  /-- PSEL.DFEGPIO[0], R48. -/
  pselDfegpio0 : α
  /-- PSEL.DFEGPIO[1], R48. -/
  pselDfegpio1 : α
  /-- PSEL.DFEGPIO[2], R48. -/
  pselDfegpio2 : α
  /-- PSEL.DFEGPIO[3], R48. -/
  pselDfegpio3 : α
  /-- PSEL.DFEGPIO[4], R48. -/
  pselDfegpio4 : α
  /-- PSEL.DFEGPIO[5], R48. -/
  pselDfegpio5 : α
  /-- PSEL.DFEGPIO[6], R48. -/
  pselDfegpio6 : α
  /-- PSEL.DFEGPIO[7], R48. -/
  pselDfegpio7 : α
  /-- DFEPACKET.PTR, R49. -/
  dfepacketPtr : α
  /-- DFEPACKET.MAXCNT, R49. -/
  dfepacketMaxcnt : α
deriving DecidableEq, Repr

/-- The RADIO events (R25). -/
inductive Event where
  | ready
  | address
  | payload
  | end_
  | disabled
  | crcok
  | crcerror
  | phyend
deriving DecidableEq, Repr

/-- The RADIO event flags, one bit each (R25). -/
structure EventFile where
  ready : Bool
  address : Bool
  payload : Bool
  end_ : Bool
  disabled : Bool
  crcok : Bool
  crcerror : Bool
  phyend : Bool
deriving DecidableEq, Repr

/-- `hf_state` (R54). -/
inductive HfState where
  | off
  | starting
  | running
deriving DecidableEq, Repr

/-- `radio_state` (R50). -/
inductive RadioState where
  | disabled
  | rxru
  | rxidle
  | rx
  | rxdisable
  | txru
  | txidle
  | tx
  | txdisable
deriving DecidableEq, Repr

/-- `phase` (R51): ADDR, PAYLOAD, CRC, CTE, DONE in TX; SEARCH, PAYLOAD, CRC, CTE, DONE in RX. -/
inductive Phase where
  | addr
  | search
  | payload
  | crc
  | cte
  | done
deriving DecidableEq, Repr

/-- `session` (R53). -/
inductive Session where
  | none
  | tx
  | rx
deriving DecidableEq, Repr

/-- An address range `[start, start + len)` (R53, R76). -/
structure Region where
  start : Nat
  len : Nat
deriving DecidableEq, Repr

/-! ### How a run stops -/

/-- The faults of R272. A fault is terminal (R270). Safe: the model stops where the sources define nothing. -/
inductive Fault where
  /-- Raised by TXEN and RXEN: the packet or IQ region that starts at `addr` is not inside RAM (R72, R180 step 6). -/
  | dmaOutsideRam (addr : Nat)
  /-- Raised by a HOST RAM load or store of the byte `addr` of `dma_regions` while a session is in flight (R84). -/
  | dmaBufferRace (addr : Nat)
deriving DecidableEq, Repr

/-- The refusals of R272, and two of the model's own (`outsideBlock`, `notModelled`). Safe: a refused step has no
meaning, so nothing can be claimed of what follows it. -/
inductive Refusal where
  /-- A non-32-bit access, a misaligned address, an unlisted offset, or the wrong direction (R92). -/
  | badAccess
  /-- A non-zero write to an event register (R174, R178). -/
  | eventWriteNonZero
  /-- A RADIO access other than POWER while POWER = 0 (R175). -/
  | radioUnpowered
  /-- A configuration, POWER or pattern write while the radio is busy (R173, R179, R236, R237). -/
  | configWhileBusy
  /-- TXEN or RXEN while a session is in flight (R180 step 1). -/
  | busy
  /-- TXEN or RXEN before the HF clock runs (R180 step 2). -/
  | hfclkNotRunning
  /-- A register the session uses has not been written since the last power cycle (R180 step 3). It carries every
  such register, since R180 does not fix which one is named (assumption 10). -/
  | unconfigured (rs : List CfgReg)
  /-- A register the session uses holds a value that is not admitted (R180 step 4); it carries every such register
  (assumption 10). -/
  | notAdmitted (rs : List CfgReg)
  /-- PACKETPTR or DFEPACKET.PTR is not a multiple of 4 (R180 step 5). -/
  | misaligned
  /-- STOP, a HOST DISABLE, an unsupported shortcut bit, INTENSET or INTENCLR (R185, R186, R188, R273). -/
  | unsupported
  /-- A HOST START outside TXIDLE and RXIDLE (R184). -/
  | badTaskState
  /-- A transmitted LENGTH above PCNF1.MAXLEN (R135). -/
  | txLengthOverMaxlen
  /-- `set_channel(i)` with i > 39 (R122, R221). -/
  | badChannel (i : Nat)
  /-- `cte_configure` with a CTE length outside 0 and 2 to 20 (R230, R247). -/
  | badCteLength
  /-- `PduEncode` called directly with more than 31 payload bytes (R130). -/
  | badPayloadLength
  /-- A HOST load or store of a byte that is not in RAM: R71 puts it outside the model. Raised by `M` and `L`
  statements (assumption 16). -/
  | outsideBlock (addr : Nat)
  /-- An instruction with no meaning in this model. Raised by no arm of exec: every row has its meaning. -/
  | notModelled (mnemonic : String)
deriving DecidableEq, Repr

/-! ### Keyed data in one canonical form -/

/-- RAM (R56, R70): the bytes something has written, addresses strictly rising. An address that is not listed holds
no written value; what it reads as is said once, in `State.ramByte`. -/
abbrev Memory := List Host.Cell

/-- HOST variables of one kind: number and value, numbers strictly rising (R104). -/
abbrev Vars (α : Type) := List (Nat × α)

/-! ### The HOST's scripts (R104, R105) -/

/-- An expression over HOST variables (R105). -/
inductive Expr where
  /-- A number. -/
  | lit (n : Nat)
  /-- The word variable an `R` statement bound. -/
  | word (v : Nat)
  /-- Byte `i` of the byte variable an `L` statement bound. -/
  | byteOf (v : Nat) (i : Nat)
  /-- A multiple, as in `4 * cnt` (R256). -/
  | scaled (k : Nat) (e : Expr)
deriving DecidableEq, Repr

/-- A condition over HOST variables: `==`, `≠`, `≥`, `AND`, `OR` over unsigned integers (R105). -/
inductive Cond where
  | eq (a b : Expr)
  | ne (a b : Expr)
  | ge (a b : Expr)
  | and (a b : Cond)
  | or (a b : Cond)
deriving DecidableEq, Repr

/-- One statement of a HOST script (R104 to R106). -/
inductive Stmt where
  /-- `W` (no variable) and `R` (the read value is bound to the word variable): one bus access. -/
  | bus (a : BusAccess) (bind : Option Nat)
  /-- `P <reg> == <value>`: read until the read returns the value. -/
  | poll (a : BusAccess) (value : Word)
  /-- `M <addr>, <n>, <bytes>`: HOST stores the bytes to RAM. -/
  | store (addr : Word) (bytes : List Byte)
  /-- `M <addr>, 4, <image>`: HOST stores a register image to RAM, the word an `R` statement bound (R73). -/
  | storeWord (addr : Word) (v : Nat)
  /-- `L <addr>, <n> -> <var>`: HOST loads n bytes of RAM into a byte variable. -/
  | load (addr : Word) (n : Expr) (bind : Nat)
  /-- `GOTO`: jump to the statement with this index. -/
  | goto (target : Nat)
  /-- `IF <cond> GOTO <label>`. -/
  | ifGoto (c : Cond) (target : Nat)
  /-- The refusal a procedure's statement 0 makes (R221, R230). -/
  | refuse (r : Refusal)
  /-- `PduDecode(buf, expected)` over a byte variable (R140). -/
  | pduDecode (buf : Nat) (expected : BitVec 48)
  /-- `return Ok` (R252). -/
  | returnOk
  /-- `return Rejected` (R250). -/
  | returnRejected
  /-- Build and return the result of `receive` (R256) from the byte variable holding the packet buffer, the word
  variable holding the sample count and the byte variable holding the IQ buffer. -/
  | returnReceived (buf cnt iq : Nat)
deriving DecidableEq, Repr

/-- One IQ sample: two signed 16-bit values (R100). -/
structure IqSample where
  i : BitVec 16
  q : BitVec 16
deriving DecidableEq, Repr

/-- What `PduDecode` returns (R140). -/
inductive PduResult where
  | noMatch
  | found (payloadLen : Nat) (payload : List Byte)
deriving DecidableEq, Repr

/-- What a HOST procedure returns (R256, R257). -/
inductive HostResult where
  | ok
  | rejected
  | received (payloadLen : Nat) (payload : List Byte) (count : Nat) (samples : List IqSample)
deriving DecidableEq, Repr

/-! ### The state -/

/-- The state of the block, its HOST and its environment. -/
structure State where
  /-- RAM_BASE, RAM_SIZE, RADIO_BASE and CLOCK_BASE (R10, R71): fixed for a machine, no step changes them. -/
  memMap : MemMap
  /-- `hf_state` (R54). -/
  hfState : HfState
  /-- CLOCK.EVENTS_HFCLKSTARTED (R23). -/
  evHfclkStarted : Bool
  /-- `powered` = POWER.POWER (R43, R54). -/
  powered : Bool
  /-- The configuration registers (R26, R33 to R49); read through `State.reg`. -/
  cfg : RegFile Word
  /-- `written` (R53): set by a HOST write, cleared by a power cycle. -/
  written : RegFile Bool
  /-- The RADIO event flags (R25). -/
  events : EventFile
  /-- The interrupt enable mask behind INTENSET and INTENCLR, held at 0 (R27). -/
  intMask : Word
  /-- CRCSTATUS (R28): true is 1, CRC OK. -/
  crcStatus : Bool
  /-- RXMATCH (R29). -/
  rxMatch : BitVec 3
  /-- RXCRC (R30). -/
  rxCrc : BitVec 24
  /-- DFEPACKET.AMOUNT (R31). -/
  amount : BitVec 16
  /-- `radio_state` (R50), read through STATE (R32). -/
  radioState : RadioState
  /-- `phase` (R51), hidden. -/
  phase : Phase
  /-- `session` (R53). -/
  session : Session
  /-- `dma_regions` (R53, R76). -/
  dmaRegions : List Region
  /-- `crc_reg` (R52). -/
  crcReg : BitVec 24
  /-- `white_lfsr` (R52): position k of the register is bit k. -/
  whiteLfsr : BitVec 7
  /-- `cur_len` (R52). -/
  curLen : Byte
  /-- `cur_s0` (R52). -/
  curS0 : Byte
  /-- `rx_stream` (R52) and the other draws of the reception in progress: the frame AIR delivered. -/
  rxFrame : AirFrame
  /-- The step at which that frame was delivered: the argument of the free bits past its end (the model's own). -/
  rxSeed : Nat
  /-- `tx_bits` (R52). -/
  txBits : List Bool
  /-- `ant_pattern` (R52, R48). -/
  antPattern : List Byte
  /-- RAM (R56, R70). -/
  ram : Memory
  /-- The HOST's script (R21, R104). -/
  script : List Stmt
  /-- `hpc`, the script index (R21): a natural number that does not wrap. -/
  hpc : Nat
  /-- The data word the last RD returned (R90). -/
  busData : Word
  /-- HOST variables bound by `R` statements (R104). -/
  wordVars : Vars Word
  /-- HOST variables bound by `L` statements (R104). -/
  byteVars : Vars (List Byte)
  /-- The expected address of the PduDecode call in progress (R140). -/
  filterAddr : BitVec 48
  /-- What the last PduDecode returned (R140). -/
  pduResult : PduResult
  /-- What the last HOST procedure returned; none before one has returned (R256, R257). -/
  result : Option HostResult
  /-- AIR's coming transmissions, first one next (R137); `Config.freeAir` supplies what follows. -/
  airIn : List AirFrame
  /-- `air_log` (R55). -/
  airLog : List AirRecord
  /-- Who steps next, first one next (R80); `Config.freeAgent` supplies what follows. -/
  turns : List Agent
  /-- The number of steps taken: the argument of the free values (the model's own). -/
  tick : Nat
  /-- `fault` (R55, R270). -/
  fault : Option Fault
  /-- `refused` (R55, R271), with the reason R272 records; none is R55's false. -/
  refused : Option Refusal
deriving DecidableEq, Repr

/-- What a step of the machine or a meaning answers. -/
abbrev Out := Host.Outcome State Fault Refusal

/-! ### Reset -/

/-- The register file that holds one value everywhere. -/
def RegFile.all {α : Type} (a : α) : RegFile α :=
  { shorts := a
    packetptr := a
    frequency := a
    txpower := a
    mode := a
    pcnf0 := a
    pcnf1 := a
    base0 := a
    base1 := a
    prefix0 := a
    prefix1 := a
    txaddress := a
    rxaddresses := a
    crccnf := a
    crcpoly := a
    crcinit := a
    datawhiteiv := a
    dfemode := a
    cteinlineconf := a
    dfectrl1 := a
    dfectrl2 := a
    pselDfegpio0 := a
    pselDfegpio1 := a
    pselDfegpio2 := a
    pselDfegpio3 := a
    pselDfegpio4 := a
    pselDfegpio5 := a
    pselDfegpio6 := a
    pselDfegpio7 := a
    dfepacketPtr := a
    dfepacketMaxcnt := a }

/-- The configuration registers after system reset and after a power cycle: 0 in every field, but the hardwired
bit 6 of DATAWHITEIV (R42, R60). -/
def RegFile.atReset : RegFile Word := { RegFile.all 0#32 with datawhiteiv := 0x40#32 }

/-- The event flags, all clear (R60). -/
def EventFile.clear : EventFile :=
  { ready := false
    address := false
    payload := false
    end_ := false
    disabled := false
    crcok := false
    crcerror := false
    phyend := false }

/-- The value of the hidden reception state before any frame: no bits, no samples (assumption 8). -/
def silentFrame : AirFrame :=
  { carrier := 0, aa := 0#32, bits := [], iq := [], crcDraw := 0#24, okDraw := false }

/-- The machine right after system reset (R60, R290). Fields whose reset value R290 leaves unspecified, and the
HOST's and the environment's own, hold the values that assumptions 8 and 9 name; the memory map is the default one
(R10). -/
def State.reset : State :=
  { memMap := MemMap.default
    hfState := .off
    evHfclkStarted := false
    powered := true
    cfg := RegFile.atReset
    written := RegFile.all false
    events := EventFile.clear
    intMask := 0#32
    crcStatus := false
    rxMatch := 0#3
    rxCrc := 0#24
    amount := 0#16
    radioState := .disabled
    phase := .done
    session := .none
    dmaRegions := []
    crcReg := 0#24
    whiteLfsr := 0#7
    curLen := 0#8
    curS0 := 0#8
    rxFrame := silentFrame
    rxSeed := 0
    txBits := []
    antPattern := []
    ram := []
    script := []
    hpc := 0
    busData := 0#32
    wordVars := []
    byteVars := []
    filterAddr := 0#48
    pduResult := .noMatch
    result := none
    airIn := []
    airLog := []
    turns := []
    tick := 0
    fault := none
    refused := none }

end Sys2Proof.Machine
end

