-- ==== Sys2Proof/Machine/Ops.lean ====
section
/-!
DEFINITION. The named operations over the state: keyed data in canonical form, RAM, the register file, the event
flags, the bus data word, and the end of a run. Every read and write of a register goes through here.
-/

namespace Sys2Proof.Machine

/-! ### Keyed data: strictly rising keys -/

/-- The value at a key, if it is listed. -/
def keyGet {α : Type} : List (Nat × α) → Nat → Option α
  | [], _ => none
  | (k, v) :: rest, a => if a = k then some v else keyGet rest a

/-- Put a value at a key, keeping the keys strictly rising. -/
def keyPut {α : Type} : List (Nat × α) → Nat → α → List (Nat × α)
  | [], a, b => [(a, b)]
  | (k, v) :: rest, a, b =>
    if a < k then (a, b) :: (k, v) :: rest
    else if a = k then (a, b) :: rest
    else (k, v) :: keyPut rest a b

/-- Whether every key is above a bound and the keys rise strictly. -/
def keysRiseFrom {α : Type} : Nat → List (Nat × α) → Bool
  | _, [] => true
  | lo, (k, _) :: rest => decide (lo ≤ k) && keysRiseFrom (k + 1) rest

/-- The canonical form: keys strictly rising. -/
def keysRise {α : Type} (m : List (Nat × α)) : Bool := keysRiseFrom 0 m

/-! ### RAM -/

/-- What an address that RAM does not list holds: no written value (R290: RAM contents are unspecified). -/
def Memory.unlisted : Option Byte := none

/-- The canonical form of RAM: addresses strictly rising. No entry can equal what an unlisted address holds, since
that is no value (assumption 7). -/
def Memory.wf (m : Memory) : Bool := keysRise m

/-- Store bytes at consecutive addresses, the first at the lowest (R14 `MemWrite`, R74). -/
def writeBytes : Memory → Nat → List Byte → Memory
  | m, _, [] => m
  | m, a, b :: rest => writeBytes (keyPut m a b) (a + 1) rest

/-- One byte of RAM (R14 `MemRead`). A byte that nothing has written reads as a free value (R290, assumption 7). -/
def State.ramByte (s : State) (a : Nat) : Byte :=
  match keyGet s.ram a with
  | some b => b
  | none => Config.ramAtReset a

/-- The bytes of RAM at `a`, `a + 1`, …, `a + n - 1`. -/
def State.ramBytes (s : State) (a n : Nat) : List Byte :=
  (List.range n).map fun k => s.ramByte (a + k)

/-- The state with bytes stored in RAM. -/
def State.storeBytes (s : State) (a : Nat) (bytes : List Byte) : State :=
  { s with ram := writeBytes s.ram a bytes }

/-- A 32-bit word as four bytes, least significant first (R73, R75). -/
def wordBytes (w : Word) : List Byte :=
  [w.extractLsb' 0 8, w.extractLsb' 8 8, w.extractLsb' 16 8, w.extractLsb' 24 8]

/-! ### Regions -/

/-- Whether a region holds a byte. -/
def Region.holds (g : Region) (a : Nat) : Bool :=
  decide (g.start ≤ a) && decide (a < g.start + g.len)

/-- Whether a region lies inside RAM (R72). -/
def Region.inRam (m : MemMap) (g : Region) : Bool :=
  decide (m.ramBase ≤ g.start) && decide (g.start + g.len ≤ m.ramBase + m.ramSize)

/-- Whether the DMA engine may touch a byte in this session (R76). -/
def State.inDma (s : State) (a : Nat) : Bool := s.dmaRegions.any fun g => g.holds a

/-! ### The register file -/

/-- The register with a name. -/
def RegFile.get {α : Type} (f : RegFile α) : CfgReg → α
  | .shorts => f.shorts
  | .packetptr => f.packetptr
  | .frequency => f.frequency
  | .txpower => f.txpower
  | .mode => f.mode
  | .pcnf0 => f.pcnf0
  | .pcnf1 => f.pcnf1
  | .base0 => f.base0
  | .base1 => f.base1
  | .prefix0 => f.prefix0
  | .prefix1 => f.prefix1
  | .txaddress => f.txaddress
  | .rxaddresses => f.rxaddresses
  | .crccnf => f.crccnf
  | .crcpoly => f.crcpoly
  | .crcinit => f.crcinit
  | .datawhiteiv => f.datawhiteiv
  | .dfemode => f.dfemode
  | .cteinlineconf => f.cteinlineconf
  | .dfectrl1 => f.dfectrl1
  | .dfectrl2 => f.dfectrl2
  | .pselDfegpio0 => f.pselDfegpio0
  | .pselDfegpio1 => f.pselDfegpio1
  | .pselDfegpio2 => f.pselDfegpio2
  | .pselDfegpio3 => f.pselDfegpio3
  | .pselDfegpio4 => f.pselDfegpio4
  | .pselDfegpio5 => f.pselDfegpio5
  | .pselDfegpio6 => f.pselDfegpio6
  | .pselDfegpio7 => f.pselDfegpio7
  | .dfepacketPtr => f.dfepacketPtr
  | .dfepacketMaxcnt => f.dfepacketMaxcnt

/-- The register file with one register replaced. -/
def RegFile.set {α : Type} (f : RegFile α) (r : CfgReg) (a : α) : RegFile α :=
  match r with
  | .shorts => { f with shorts := a }
  | .packetptr => { f with packetptr := a }
  | .frequency => { f with frequency := a }
  | .txpower => { f with txpower := a }
  | .mode => { f with mode := a }
  | .pcnf0 => { f with pcnf0 := a }
  | .pcnf1 => { f with pcnf1 := a }
  | .base0 => { f with base0 := a }
  | .base1 => { f with base1 := a }
  | .prefix0 => { f with prefix0 := a }
  | .prefix1 => { f with prefix1 := a }
  | .txaddress => { f with txaddress := a }
  | .rxaddresses => { f with rxaddresses := a }
  | .crccnf => { f with crccnf := a }
  | .crcpoly => { f with crcpoly := a }
  | .crcinit => { f with crcinit := a }
  | .datawhiteiv => { f with datawhiteiv := a }
  | .dfemode => { f with dfemode := a }
  | .cteinlineconf => { f with cteinlineconf := a }
  | .dfectrl1 => { f with dfectrl1 := a }
  | .dfectrl2 => { f with dfectrl2 := a }
  | .pselDfegpio0 => { f with pselDfegpio0 := a }
  | .pselDfegpio1 => { f with pselDfegpio1 := a }
  | .pselDfegpio2 => { f with pselDfegpio2 := a }
  | .pselDfegpio3 => { f with pselDfegpio3 := a }
  | .pselDfegpio4 => { f with pselDfegpio4 := a }
  | .pselDfegpio5 => { f with pselDfegpio5 := a }
  | .pselDfegpio6 => { f with pselDfegpio6 := a }
  | .pselDfegpio7 => { f with pselDfegpio7 := a }
  | .dfepacketPtr => { f with dfepacketPtr := a }
  | .dfepacketMaxcnt => { f with dfepacketMaxcnt := a }

/-- The bits of a register's fields (R26, R33 to R49); R11: the other bits read as 0. -/
def fieldMask : CfgReg → Word
  | .shorts => 0x00100001#32
  | .packetptr => 0xFFFFFFFF#32
  | .frequency => 0x0000017F#32
  | .txpower => 0x000000FF#32
  | .mode => 0x0000000F#32
  | .pcnf0 => 0x67DF010F#32
  | .pcnf1 => 0x0307FFFF#32
  | .base0 => 0xFFFFFFFF#32
  | .base1 => 0xFFFFFFFF#32
  | .prefix0 => 0xFFFFFFFF#32
  | .prefix1 => 0xFFFFFFFF#32
  | .txaddress => 0x00000007#32
  | .rxaddresses => 0x000000FF#32
  | .crccnf => 0x00000303#32
  | .crcpoly => 0x00FFFFFF#32
  | .crcinit => 0x00FFFFFF#32
  | .datawhiteiv => 0x0000003F#32
  | .dfemode => 0x00000003#32
  | .cteinlineconf => 0xFFFFFFFF#32
  | .dfectrl1 => 0x0FF7F7BF#32
  | .dfectrl2 => 0x0FFF1FFF#32
  | .pselDfegpio0 => 0x8000003F#32
  | .pselDfegpio1 => 0x8000003F#32
  | .pselDfegpio2 => 0x8000003F#32
  | .pselDfegpio3 => 0x8000003F#32
  | .pselDfegpio4 => 0x8000003F#32
  | .pselDfegpio5 => 0x8000003F#32
  | .pselDfegpio6 => 0x8000003F#32
  | .pselDfegpio7 => 0x8000003F#32
  | .dfepacketPtr => 0xFFFFFFFF#32
  | .dfepacketMaxcnt => 0x00003FFF#32

/-- The bits of a register that are hardwired to 1: bit 6 of DATAWHITEIV (R42). -/
def hardwiredOnes : CfgReg → Word
  | .datawhiteiv => 0x40#32
  | _ => 0#32

/-- What a register reads as: its fields, with the hardwired bits and 0 elsewhere (R11, R42, R179). -/
def keepFields (r : CfgReg) (w : Word) : Word := (w &&& fieldMask r) ||| hardwiredOnes r

/-- The bits a write stores: those of the fields (R11, R179), and bits [31:24] of CRCPOLY, which R151 says are stored
and ignored; no read returns them (R11, R213, assumption 23). -/
def storeMask (r : CfgReg) : Word := if r = .crcpoly then 0xFFFFFFFF#32 else fieldMask r

/-- What a register holds after a data word is written to it (R42, R151, R179). -/
def storeFields (r : CfgReg) (w : Word) : Word := (w &&& storeMask r) ||| hardwiredOnes r

/-- Read a configuration register (R179). -/
def State.reg (s : State) (r : CfgReg) : Word := keepFields r (s.cfg.get r)

/-- Write a configuration register and mark it written (R53, R179). -/
def State.writeReg (s : State) (r : CfgReg) (d : Word) : State :=
  { s with cfg := s.cfg.set r (storeFields r d), written := s.written.set r true }

/-! ### Event flags -/

/-- The flag of an event. -/
def EventFile.get (f : EventFile) : Event → Bool
  | .ready => f.ready
  | .address => f.address
  | .payload => f.payload
  | .end_ => f.end_
  | .disabled => f.disabled
  | .crcok => f.crcok
  | .crcerror => f.crcerror
  | .phyend => f.phyend

/-- The flags with one replaced. -/
def EventFile.set (f : EventFile) (e : Event) (b : Bool) : EventFile :=
  match e with
  | .ready => { f with ready := b }
  | .address => { f with address := b }
  | .payload => { f with payload := b }
  | .end_ => { f with end_ := b }
  | .disabled => { f with disabled := b }
  | .crcok => { f with crcok := b }
  | .crcerror => { f with crcerror := b }
  | .phyend => { f with phyend := b }

/-- Set or clear one RADIO event flag. -/
def State.setEvent (s : State) (e : Event) (b : Bool) : State := { s with events := s.events.set e b }

/-- A flag or a one-bit field as a 32-bit word (R177). -/
def zextBool (b : Bool) : Word := if b then 1#32 else 0#32

/-! ### The bus and the guards of an access -/

/-- The end of a RD: the word returned (R90). -/
def State.readBus (s : State) (w : Word) : State := { s with busData := w }

/-- R179: whether a configuration, POWER or pattern write is refused. -/
def State.busy (s : State) : Bool := decide (s.session ≠ .none) || decide (s.radioState ≠ .disabled)

/-- R175: while POWER = 0 every access to a RADIO register other than POWER is refused. -/
def State.ifPowered (s : State) (o : Out) : Out := if s.powered then o else .refused .radioUnpowered

/-- An access to a task register: a read is refused (R24, R92), a write with bit 0 clear has no effect, a write with
bit 0 set acts. -/
def taskAccess (act : State → Out) (op : BusOp) (s : State) : Out :=
  match op with
  | .rd => .refused .badAccess
  | .wr d => s.ifPowered (if d.getLsbD 0 then act s else .next s)

/-- An access to a RADIO event register (R177, R178). -/
def eventAccess (e : Event) (op : BusOp) (s : State) : Out :=
  s.ifPowered
    (match op with
    | .rd => .next (s.readBus (zextBool (s.events.get e)))
    | .wr d => if d = 0#32 then .next (s.setEvent e false) else .refused .eventWriteNonZero)

/-- An access to a configuration register (R179). -/
def configAccess (r : CfgReg) (op : BusOp) (s : State) : Out :=
  s.ifPowered
    (match op with
    | .rd => .next (s.readBus (s.reg r))
    | .wr d => if s.busy then .refused .configWhileBusy else .next (s.writeReg r d))

/-- An access to a status register: a write is refused (R28 to R32, R92), a read returns the value. -/
def statusAccess (value : State → Word) (op : BusOp) (s : State) : Out :=
  match op with
  | .wr _ => .refused .badAccess
  | .rd => s.ifPowered (.next (s.readBus (value s)))

/-! ### HOST variables -/

/-- The value of a word variable; a free value if nothing bound it (assumption 21). -/
def State.wordVar (s : State) (v : Nat) : Word :=
  match keyGet s.wordVars v with
  | some w => w
  | none => Config.unboundWord v

/-- Byte `i` of a byte variable; a free value if nothing bound it or the variable is shorter (assumption 21). -/
def State.byteVar (s : State) (v i : Nat) : Byte :=
  match keyGet s.byteVars v with
  | some bytes =>
    match bytes[i]? with
    | some b => b
    | none => Config.unboundByte v i
  | none => Config.unboundByte v i

/-- Bind a word variable. -/
def State.bindWord (s : State) (v : Nat) (w : Word) : State := { s with wordVars := keyPut s.wordVars v w }

/-- Bind a byte variable. -/
def State.bindBytes (s : State) (v : Nat) (bytes : List Byte) : State :=
  { s with byteVars := keyPut s.byteVars v bytes }

/-- Move the script index (R105). -/
def State.jump (s : State) (target : Nat) : State := { s with hpc := target }

/-- The end of a statement: the script index advances by 1 (R105). -/
def State.advance (s : State) : State := s.jump (s.hpc + 1)

/-! ### Exceptions

The block has no trap: nothing is saved, no vector is fetched, no mode changes, and there is no return (R279, R280).
What R270 and R271 describe instead is the end of the run, and this is its one operation. -/

/-- The state a step ends in: after a fault, the state before the step with `fault` set (R270); after a refusal, with
`refused` set (R271). -/
def State.settle (s : State) (o : Out) : State :=
  match o with
  | .next t => t
  | .fault f => { s with fault := some f }
  | .refused r => { s with refused := some r }

/-- R170: once `fault` is set or `refused` is true, no agent takes any further step; the run's outcome stands. -/
def State.ifRunning (s : State) (o : Out) : Out :=
  match s.fault, s.refused with
  | some f, _ => .fault f
  | none, some r => .refused r
  | none, none => o

end Sys2Proof.Machine
end

