-- ==== Sys2Proof/Machine/Clock.lean ====
section
/-!
DEFINITION. The meanings of the CLOCK registers (R171, R174). They do not depend on RADIO's power (R175).
-/

namespace Sys2Proof.Machine

/-- R171: what a write of 1 to TASKS_HFCLKSTART does. -/
def State.startHfclk (s : State) : State :=
  match s.hfState with
  | .off => { s with hfState := .starting }
  | .starting => s
  | .running => { s with evHfclkStarted := true }

/-- CLOCK.TASKS_HFCLKSTART (R22, R171). -/
def execClockTasksHfclkstart (op : BusOp) (s : State) : Out :=
  match op with
  | .rd => .refused .badAccess
  | .wr d => if d.getLsbD 0 then .next s.startHfclk else .next s

/-- CLOCK.EVENTS_HFCLKSTARTED (R23, R174). -/
def execClockEventsHfclkstarted (op : BusOp) (s : State) : Out :=
  match op with
  | .rd => .next (s.readBus (zextBool s.evHfclkStarted))
  | .wr d => if d = 0#32 then .next { s with evHfclkStarted := false } else .refused .eventWriteNonZero

end Sys2Proof.Machine
end

