-- ==== Sys2Proof/Machine/ConfigRegs.lean ====
section
/-!
DEFINITION. The meanings of the shortcut, interrupt-enable and configuration registers (R179, R188, R200 to R215, R273).
-/

namespace Sys2Proof.Machine

/-- RADIO.SHORTS (R188): a write that sets a bit other than READY_START and PHYEND_DISABLE is refused; otherwise it is a
configuration access. -/
def execShorts (op : BusOp) (s : State) : Out :=
  match op with
  | .rd => configAccess .shorts .rd s
  | .wr d =>
    if d &&& ~~~(fieldMask .shorts) = 0#32 then configAccess .shorts (.wr d) s
    else s.ifPowered (.refused .unsupported)

/-- RADIO.INTENSET (R27, R273): any access is refused. -/
def execIntenset (_op : BusOp) (s : State) : Out := s.ifPowered (.refused .unsupported)

/-- RADIO.INTENCLR (R27, R273): any access is refused. -/
def execIntenclr (_op : BusOp) (s : State) : Out := s.ifPowered (.refused .unsupported)

/-- RADIO.PACKETPTR (R200). -/
def execPacketptr (op : BusOp) (s : State) : Out := configAccess .packetptr op s

/-- RADIO.FREQUENCY (R201). -/
def execFrequency (op : BusOp) (s : State) : Out := configAccess .frequency op s

/-- RADIO.TXPOWER (R202). -/
def execTxpower (op : BusOp) (s : State) : Out := configAccess .txpower op s

/-- RADIO.MODE (R203). -/
def execMode (op : BusOp) (s : State) : Out := configAccess .mode op s

/-- RADIO.PCNF0 (R204). -/
def execPcnf0 (op : BusOp) (s : State) : Out := configAccess .pcnf0 op s

/-- RADIO.PCNF1 (R205). -/
def execPcnf1 (op : BusOp) (s : State) : Out := configAccess .pcnf1 op s

/-- RADIO.BASE0 (R206). -/
def execBase0 (op : BusOp) (s : State) : Out := configAccess .base0 op s

/-- RADIO.BASE1 (R207). -/
def execBase1 (op : BusOp) (s : State) : Out := configAccess .base1 op s

/-- RADIO.PREFIX0 (R208). -/
def execPrefix0 (op : BusOp) (s : State) : Out := configAccess .prefix0 op s

/-- RADIO.PREFIX1 (R209). -/
def execPrefix1 (op : BusOp) (s : State) : Out := configAccess .prefix1 op s

/-- RADIO.TXADDRESS (R210). -/
def execTxaddress (op : BusOp) (s : State) : Out := configAccess .txaddress op s

/-- RADIO.RXADDRESSES (R211). -/
def execRxaddresses (op : BusOp) (s : State) : Out := configAccess .rxaddresses op s

/-- RADIO.CRCCNF (R212). -/
def execCrccnf (op : BusOp) (s : State) : Out := configAccess .crccnf op s

/-- RADIO.CRCPOLY (R213). -/
def execCrcpoly (op : BusOp) (s : State) : Out := configAccess .crcpoly op s

/-- RADIO.CRCINIT (R214). -/
def execCrcinit (op : BusOp) (s : State) : Out := configAccess .crcinit op s

/-- RADIO.DATAWHITEIV (R215). -/
def execDatawhiteiv (op : BusOp) (s : State) : Out := configAccess .datawhiteiv op s

end Sys2Proof.Machine
end

