-- ==== Sys2Proof/Machine/Dfe.lean ====
section
/-!
DEFINITION. The meanings of the direction-finding and antenna-switching registers (R232 to R240).
-/

namespace Sys2Proof.Machine

/-- A write to SWITCHPATTERN appends its low byte to `ant_pattern` (R236). -/
def State.appendPattern (s : State) (d : Word) : State := { s with antPattern := s.antPattern ++ [d.extractLsb' 0 8] }

/-- CLEARPATTERN empties `ant_pattern` (R237). -/
def State.clearPattern (s : State) : State := { s with antPattern := [] }

/-- RADIO.SWITCHPATTERN (R236): write-only, refused while the radio is busy. -/
def execSwitchpattern (op : BusOp) (s : State) : Out :=
  match op with
  | .rd => .refused .badAccess
  | .wr d => s.ifPowered (if s.busy then .refused .configWhileBusy else .next (s.appendPattern d))

/-- RADIO.CLEARPATTERN (R237): a write is refused while the radio is busy (assumption 15); a write of 1 empties the
list, a write of 0 has no effect. -/
def execClearpattern (op : BusOp) (s : State) : Out :=
  match op with
  | .rd => .refused .badAccess
  | .wr d =>
    s.ifPowered
      (if s.busy then .refused .configWhileBusy else if d.getLsbD 0 then .next s.clearPattern else .next s)

/-- RADIO.DFEMODE (R232). -/
def execDfemode (op : BusOp) (s : State) : Out := configAccess .dfemode op s

/-- RADIO.CTEINLINECONF (R233). -/
def execCteinlineconf (op : BusOp) (s : State) : Out := configAccess .cteinlineconf op s

/-- RADIO.DFECTRL1 (R234). -/
def execDfectrl1 (op : BusOp) (s : State) : Out := configAccess .dfectrl1 op s

/-- RADIO.DFECTRL2 (R235). -/
def execDfectrl2 (op : BusOp) (s : State) : Out := configAccess .dfectrl2 op s

/-- RADIO.PSEL.DFEGPIO[0] (R238). -/
def execPselDfegpio0 (op : BusOp) (s : State) : Out := configAccess .pselDfegpio0 op s

/-- RADIO.PSEL.DFEGPIO[1] (R238). -/
def execPselDfegpio1 (op : BusOp) (s : State) : Out := configAccess .pselDfegpio1 op s

/-- RADIO.PSEL.DFEGPIO[2] (R238). -/
def execPselDfegpio2 (op : BusOp) (s : State) : Out := configAccess .pselDfegpio2 op s

/-- RADIO.PSEL.DFEGPIO[3] (R238). -/
def execPselDfegpio3 (op : BusOp) (s : State) : Out := configAccess .pselDfegpio3 op s

/-- RADIO.PSEL.DFEGPIO[4] (R238). -/
def execPselDfegpio4 (op : BusOp) (s : State) : Out := configAccess .pselDfegpio4 op s

/-- RADIO.PSEL.DFEGPIO[5] (R238). -/
def execPselDfegpio5 (op : BusOp) (s : State) : Out := configAccess .pselDfegpio5 op s

/-- RADIO.PSEL.DFEGPIO[6] (R238). -/
def execPselDfegpio6 (op : BusOp) (s : State) : Out := configAccess .pselDfegpio6 op s

/-- RADIO.PSEL.DFEGPIO[7] (R238). -/
def execPselDfegpio7 (op : BusOp) (s : State) : Out := configAccess .pselDfegpio7 op s

/-- RADIO.DFEPACKET.PTR (R239). -/
def execDfepacketPtr (op : BusOp) (s : State) : Out := configAccess .dfepacketPtr op s

/-- RADIO.DFEPACKET.MAXCNT (R240). -/
def execDfepacketMaxcnt (op : BusOp) (s : State) : Out := configAccess .dfepacketMaxcnt op s

end Sys2Proof.Machine
end

