-- ==== Sys2Proof/Machine/Events.lean ====
section
/-!
DEFINITION. The meanings of the RADIO event registers (R25, R177, R178, R192 to R199).
-/

namespace Sys2Proof.Machine

/-- RADIO.EVENTS_READY (R192). -/
def execEventsReady (op : BusOp) (s : State) : Out := eventAccess .ready op s

/-- RADIO.EVENTS_ADDRESS (R193). -/
def execEventsAddress (op : BusOp) (s : State) : Out := eventAccess .address op s

/-- RADIO.EVENTS_PAYLOAD (R194). -/
def execEventsPayload (op : BusOp) (s : State) : Out := eventAccess .payload op s

/-- RADIO.EVENTS_END (R195). -/
def execEventsEnd (op : BusOp) (s : State) : Out := eventAccess .end_ op s

/-- RADIO.EVENTS_DISABLED (R196). -/
def execEventsDisabled (op : BusOp) (s : State) : Out := eventAccess .disabled op s

/-- RADIO.EVENTS_CRCOK (R197). -/
def execEventsCrcok (op : BusOp) (s : State) : Out := eventAccess .crcok op s

/-- RADIO.EVENTS_CRCERROR (R198). -/
def execEventsCrcerror (op : BusOp) (s : State) : Out := eventAccess .crcerror op s

/-- RADIO.EVENTS_PHYEND (R199). -/
def execEventsPhyend (op : BusOp) (s : State) : Out := eventAccess .phyend op s

end Sys2Proof.Machine
end

