-- ==== Sys2Proof/Machine/Pdu.lean ====
section
/-!
DEFINITION. The PDU codec that HOST runs (R95 to R99, R130, R140 to R143).
-/

namespace Sys2Proof.Machine

/-- `PduEncode(address, payload, n)` of R130, with n the payload's length; more than 31 bytes are refused. -/
def pduEncode (address : BitVec 48) (payload : List Byte) : Except Refusal (List Byte) :=
  if payload.length ≤ 31 then .ok (pduImage (BitVec.ofNat 8 (6 + payload.length)) address payload)
  else .error .badPayloadLength

/-- What PduDecode returns for a PDU whose header byte is 0x42 (R140): LENGTH at least 6, the expected address, and
the payload length clamped to 31 (R141). -/
def pduMatch (length : Byte) (advA : BitVec 48) (advData : List Byte) (expected : BitVec 48) : PduResult :=
  if length.toNat < 6 then .noMatch
  else if advA ≠ expected then .noMatch
  else .found (advDataRead length) (advData.take (advDataRead length))

/-- `PduDecode(buf, expected)` of R140 over a whole buffer: a header byte other than 0x42 is no match (R96). -/
def pduDecode (buf : List Byte) (expected : BitVec 48) : PduResult :=
  match decodePdu buf with
  | .ok (.advNonconnInd length advA advData) => pduMatch length advA advData expected
  | .ok _ => .noMatch
  | .error _ => .noMatch

/-- PDU_HEADER.ADV_NONCONN_IND (R95, R96, R140): HOST's decoder takes the PDU that this header opens and compares it
with the expected address of the call (assumption 3). -/
def execAdvNonconnInd (length : Byte) (advA : BitVec 48) (advData : List Byte) (s : State) : Out :=
  .next { s with pduResult := pduMatch length advA advData s.filterAddr }

end Sys2Proof.Machine
end

