-- ==== Sys2Proof/Machine/Power.lean ====
section
/-!
DEFINITION. The meaning of RADIO.POWER (R173, R292).
-/

namespace Sys2Proof.Machine

/-- R173, R292: the power-down resets every RADIO register other than POWER, `written`, `ant_pattern` and
`radio_state`; CLOCK, RAM and `air_log` are not touched (R285, R220's end state; against R60, assumption 32). Of the hidden state, R60 gives `tx_bits` its
reset value, empty (R52); the rest, whose reset value R51 and R52 leave unspecified, keeps what it holds
(assumption 22). -/
def State.powerDown (s : State) : State :=
  { s with
    powered := false
    cfg := RegFile.atReset
    written := RegFile.all false
    events := EventFile.clear
    intMask := 0#32
    crcStatus := false
    rxMatch := 0#3
    rxCrc := 0#24
    amount := 0#16
    txBits := []
    antPattern := []
    radioState := .disabled }

/-- RADIO.POWER (R173). It is accessible while POWER = 0 (R175). -/
def execPower (op : BusOp) (s : State) : Out :=
  match op with
  | .rd => .next (s.readBus (zextBool s.powered))
  | .wr d =>
    if s.busy then .refused .configWhileBusy
    else if d.getLsbD 0 then .next { s with powered := true } else .next s.powerDown

end Sys2Proof.Machine
end

