-- ==== Sys2Proof/Machine/Status.lean ====
section
/-!
DEFINITION. The meanings of the status registers (R28 to R32, R216 to R219, R246).
-/

namespace Sys2Proof.Machine

/-- The code STATE reads for each `radio_state` (R32). -/
def stateCode : RadioState → Word
  | .disabled => 0#32
  | .rxru => 1#32
  | .rxidle => 2#32
  | .rx => 3#32
  | .rxdisable => 4#32
  | .txru => 9#32
  | .txidle => 10#32
  | .tx => 11#32
  | .txdisable => 12#32

/-- RADIO.CRCSTATUS (R216). -/
def execCrcstatus (op : BusOp) (s : State) : Out := statusAccess (fun t => zextBool t.crcStatus) op s

/-- RADIO.RXMATCH (R217). -/
def execRxmatch (op : BusOp) (s : State) : Out := statusAccess (fun t => t.rxMatch.zeroExtend 32) op s

/-- RADIO.RXCRC (R218). -/
def execRxcrc (op : BusOp) (s : State) : Out := statusAccess (fun t => t.rxCrc.zeroExtend 32) op s

/-- RADIO.STATE (R219). -/
def execState (op : BusOp) (s : State) : Out := statusAccess (fun t => stateCode t.radioState) op s

/-- RADIO.DFEPACKET.AMOUNT (R246). -/
def execDfepacketAmount (op : BusOp) (s : State) : Out := statusAccess (fun t => t.amount.zeroExtend 32) op s

end Sys2Proof.Machine
end

