-- ==== Sys2Proof/Machine/Operands.lean ====
section
/-!
DEFINITION. The operand fields of the registers (spec/10_state.md R26, R33 to R49), each read from the register's
stored word, and the values a session is admitted with (R102).
-/

namespace Sys2Proof.Machine

/-- The field `[lo + len - 1 : lo]` of a word (R12). -/
def field (w : Word) (lo len : Nat) : BitVec len := w.extractLsb' lo len

/-- SHORTS.READY_START (R26). -/
def State.readyStart (s : State) : Bool := (s.reg .shorts).getLsbD 0

/-- SHORTS.PHYEND_DISABLE (R26). -/
def State.phyendDisable (s : State) : Bool := (s.reg .shorts).getLsbD 20

/-- PACKETPTR as an address (R33, R79). -/
def State.packetPtr (s : State) : Nat := (s.reg .packetptr).toNat

/-- FREQUENCY.FREQUENCY (R34). -/
def State.freqOffset (s : State) : BitVec 7 := field (s.reg .frequency) 0 7

/-- FREQUENCY.MAP (R34). -/
def State.freqMap (s : State) : Bool := (s.reg .frequency).getLsbD 8

/-- The carrier in MHz (R34, R123). -/
def State.carrierMhz (s : State) : Nat := 2400 + s.freqOffset.toNat

/-- MODE.MODE (R36). -/
def State.radioMode (s : State) : BitVec 4 := field (s.reg .mode) 0 4

/-- TXPOWER.TXPOWER: stored, no modelled effect (R35). -/
def State.txPower (s : State) : BitVec 8 := field (s.reg .txpower) 0 8

/-- PCNF0.LFLEN (R37). -/
def State.lflen (s : State) : BitVec 4 := field (s.reg .pcnf0) 0 4

/-- PCNF0.S0LEN, in bytes (R37, 90_conflicts.md C1). -/
def State.s0len (s : State) : Bool := (s.reg .pcnf0).getLsbD 8

/-- PCNF0.S1LEN (R37). -/
def State.s1len (s : State) : BitVec 4 := field (s.reg .pcnf0) 16 4

/-- PCNF0.S1INCL (R37). -/
def State.s1incl (s : State) : Bool := (s.reg .pcnf0).getLsbD 20

/-- PCNF0.CILEN (R37). -/
def State.cilen (s : State) : BitVec 2 := field (s.reg .pcnf0) 22 2

/-- PCNF0.PLEN (R37). -/
def State.plen (s : State) : BitVec 2 := field (s.reg .pcnf0) 24 2

/-- PCNF0.CRCINC (R37). -/
def State.crcinc (s : State) : Bool := (s.reg .pcnf0).getLsbD 26

/-- PCNF0.TERMLEN (R37). -/
def State.termlen (s : State) : BitVec 2 := field (s.reg .pcnf0) 29 2

/-- PCNF1.MAXLEN (R38). -/
def State.maxlen (s : State) : Nat := (field (s.reg .pcnf1) 0 8).toNat

/-- PCNF1.STATLEN (R38). -/
def State.statlen (s : State) : BitVec 8 := field (s.reg .pcnf1) 8 8

/-- PCNF1.BALEN (R38). -/
def State.balen (s : State) : BitVec 3 := field (s.reg .pcnf1) 16 3

/-- PCNF1.ENDIAN (R38). -/
def State.endian (s : State) : Bool := (s.reg .pcnf1).getLsbD 24

/-- PCNF1.WHITEEN (R38). -/
def State.whiteen (s : State) : Bool := (s.reg .pcnf1).getLsbD 25

/-- The access address of logical address 0, `{PREFIX0.AP0, BASE0[31:8]}` (R39, R131). -/
def State.accessAddress (s : State) : Word := field (s.reg .prefix0) 0 8 ++ field (s.reg .base0) 8 24

/-- TXADDRESS.TXADDRESS (R40). -/
def State.txAddress (s : State) : BitVec 3 := field (s.reg .txaddress) 0 3

/-- RXADDRESSES.ADDR7..ADDR0 (R40). -/
def State.rxAddresses (s : State) : BitVec 8 := field (s.reg .rxaddresses) 0 8

/-- CRCCNF.LEN (R41). -/
def State.crcLen (s : State) : BitVec 2 := field (s.reg .crccnf) 0 2

/-- CRCCNF.SKIPADDR (R41). -/
def State.crcSkipAddr (s : State) : BitVec 2 := field (s.reg .crccnf) 8 2

/-- CRCPOLY[23:0] (R41). -/
def State.crcPoly (s : State) : BitVec 24 := field (s.reg .crcpoly) 0 24

/-- CRCINIT[23:0] (R41). -/
def State.crcInit (s : State) : BitVec 24 := field (s.reg .crcinit) 0 24

/-- DATAWHITEIV as read, bit 6 hardwired to 1 (R42). -/
def State.whiteIv (s : State) : BitVec 7 := field (s.reg .datawhiteiv) 0 7

/-- DFEMODE.DFEOPMODE (R44). -/
def State.dfeOpMode (s : State) : BitVec 2 := field (s.reg .dfemode) 0 2

/-- `cte_enabled` (R231): AoA mode. -/
def State.cteEnabled (s : State) : Bool := decide (s.dfeOpMode = 3#2)

/-- CTEINLINECONF.CTEINLINECTRLEN (R45). -/
def State.cteInlineCtrlEn (s : State) : Bool := (s.reg .cteinlineconf).getLsbD 0

/-- DFECTRL1.NUMBEROF8US (R46). -/
def State.numberOf8us (s : State) : Nat := (field (s.reg .dfectrl1) 0 6).toNat

/-- DFECTRL1.DFEINEXTENSION (R46). -/
def State.dfeInExtension (s : State) : Bool := (s.reg .dfectrl1).getLsbD 7

/-- DFECTRL1.TSWITCHSPACING (R46). -/
def State.tSwitchSpacing (s : State) : BitVec 3 := field (s.reg .dfectrl1) 8 3

/-- DFECTRL1.TSAMPLESPACINGREF (R46). -/
def State.tSampleSpacingRef (s : State) : BitVec 3 := field (s.reg .dfectrl1) 12 3

/-- DFECTRL1.SAMPLETYPE (R46). -/
def State.sampleType (s : State) : Bool := (s.reg .dfectrl1).getLsbD 15

/-- DFECTRL1.TSAMPLESPACING (R46). -/
def State.tSampleSpacing (s : State) : BitVec 3 := field (s.reg .dfectrl1) 16 3

/-- DFECTRL1.REPEATPATTERN (R46). -/
def State.repeatPattern (s : State) : BitVec 4 := field (s.reg .dfectrl1) 20 4

/-- DFECTRL1.AGCBACKOFFGAIN: stored, no modelled effect (R46). -/
def State.agcBackoffGain (s : State) : BitVec 4 := field (s.reg .dfectrl1) 24 4

/-- DFECTRL2.TSWITCHOFFSET, a 13-bit two's-complement value read back sign-extended (R15, R47, R93); it changes no
value the model computes (R244). -/
def State.tSwitchOffset (s : State) : Int := (field (s.reg .dfectrl2) 0 13).toInt

/-- DFECTRL2.TSAMPLEOFFSET (R47); it changes no value the model computes (R244). -/
def State.tSampleOffset (s : State) : BitVec 12 := field (s.reg .dfectrl2) 16 12

/-- PSEL.DFEGPIO[n].PIN: stored, no modelled effect (R48, R238). -/
def pselPin (w : Word) : BitVec 5 := field w 0 5

/-- PSEL.DFEGPIO[n].PORT: stored, no modelled effect (R48, R238). -/
def pselPort (w : Word) : Bool := w.getLsbD 5

/-- PSEL.DFEGPIO[n].CONNECT, 0 meaning connected: stored, no modelled effect (R48, R238). -/
def pselConnected (w : Word) : Bool := !w.getLsbD 31

/-- DFEPACKET.PTR as an address (R49, R79). -/
def State.iqPtr (s : State) : Nat := (s.reg .dfepacketPtr).toNat

/-- DFEPACKET.MAXCNT, in 32-bit words (R49). -/
def State.iqMaxcnt (s : State) : Nat := (field (s.reg .dfepacketMaxcnt) 0 14).toNat

/-- R46, R102: whether DFECTRL1 is admitted in AoA mode. -/
def State.dfectrl1Admitted (s : State) : Bool :=
  decide (2 ≤ s.numberOf8us) && decide (s.numberOf8us ≤ 20) && s.dfeInExtension &&
  decide (1 ≤ s.tSwitchSpacing.toNat) && decide (s.tSwitchSpacing.toNat ≤ 3) &&
  decide (1 ≤ s.tSampleSpacingRef.toNat) && decide (s.tSampleSpacingRef.toNat ≤ 6) && !s.sampleType &&
  decide (1 ≤ s.tSampleSpacing.toNat) && decide (s.tSampleSpacing.toNat ≤ 6) && decide (s.repeatPattern = 0#4)

/-- R102, R33 to R49: whether the value a register holds is in its admitted set, as step 4 of R180 checks it. The
alignment and reach of the two pointers are steps 5 and 6 (assumption 13). -/
def State.admitted (s : State) (r : CfgReg) : Bool :=
  match r with
  | .frequency => decide (s.freqOffset.toNat ≤ 100) && !s.freqMap
  | .mode => decide (s.radioMode = 3#4)
  | .pcnf0 => decide (s.reg .pcnf0 = 0x00000108#32)
  | .pcnf1 => decide (s.statlen = 0#8) && decide (s.balen = 3#3) && !s.endian
  | .txaddress => decide (s.txAddress = 0#3)
  | .rxaddresses => decide (s.rxAddresses = 1#8)
  | .crccnf => decide (s.crcLen = 3#2) && decide (s.crcSkipAddr = 1#2)
  | .dfemode => decide (s.dfeOpMode = 0#2) || decide (s.dfeOpMode = 3#2)
  | .cteinlineconf => !s.cteInlineCtrlEn
  | .dfectrl1 => s.dfectrl1Admitted
  | .dfepacketMaxcnt => decide (1 ≤ s.iqMaxcnt)
  | _ => true

end Sys2Proof.Machine
end

