-- ==== Sys2Proof/Machine/Flags.lean ====
section
/-!
DEFINITION. The event flags, the block's only condition codes (R25): `signal` with its shortcuts (R176), and the two
tasks a shortcut can trigger (R184, R186).
-/

namespace Sys2Proof.Machine

/-- `StartTask()` of R184 in the states that admit it; from the shortcut no other state can occur. -/
def State.startTask (s : State) : State :=
  match s.radioState with
  | .txidle => { s with radioState := .tx, phase := .addr }
  | .rxidle => { s with radioState := .rx, phase := .search }
  | _ => s

/-- `DisableTask()` of R186. -/
def State.disableTask (s : State) : State :=
  match s.radioState with
  | .tx => { s with radioState := .txdisable }
  | .rx => { s with radioState := .rxdisable }
  | _ => s

/-- `signal E` of R176: the flag becomes 1, then the shortcut task runs in the same step. -/
def State.signal (s : State) (e : Event) : State :=
  match e with
  | .ready => if s.readyStart then (s.setEvent e true).startTask else s.setEvent e true
  | .phyend => if s.phyendDisable then (s.setEvent e true).disableTask else s.setEvent e true
  | _ => s.setEvent e true

end Sys2Proof.Machine
end

