-- ==== Sys2Proof/Machine/Session.lean ====
section
/-!
DEFINITION. The session-start check that TXEN and RXEN run (R180), and the DMA regions of a session (R76).
-/

namespace Sys2Proof.Machine

/-- The registers a session uses, in the order R180 step 3 lists them. -/
def State.usedRegs (s : State) (kind : Session) : List CfgReg :=
  [.packetptr, .frequency, .mode, .pcnf0, .pcnf1, .base0, .prefix0, .crccnf, .crcpoly, .crcinit, .datawhiteiv,
    .dfemode] ++
  (if kind = .tx then [.txaddress] else [.rxaddresses]) ++
  (if s.cteEnabled then [.cteinlineconf, .dfectrl1, .dfectrl2] else []) ++
  (if kind = .rx ∧ s.cteEnabled then [.dfepacketPtr, .dfepacketMaxcnt] else [])

/-- R180 step 3: the registers the session uses that have not been written since the last power cycle. -/
def State.unwrittenRegs (s : State) (kind : Session) : List CfgReg :=
  (s.usedRegs kind).filter fun r => !s.written.get r

/-- R180 step 4: the registers the session uses whose value is not admitted. -/
def State.notAdmittedRegs (s : State) (kind : Session) : List CfgReg :=
  (s.usedRegs kind).filter fun r => !s.admitted r

/-- R76, R180 step 5: the pointers the session uses are multiples of 4. -/
def State.pointersAligned (s : State) (kind : Session) : Bool :=
  decide (s.packetPtr % 4 = 0) && (!(decide (kind = .rx) && s.cteEnabled) || decide (s.iqPtr % 4 = 0))

/-- R76: `[PACKETPTR, PACKETPTR + 2 + MAXLEN)`. -/
def State.packetRegion (s : State) : Region := { start := s.packetPtr, len := 2 + s.maxlen }

/-- R76: `[DFEPACKET.PTR, DFEPACKET.PTR + 4·MAXCNT)`. -/
def State.iqRegion (s : State) : Region := { start := s.iqPtr, len := 4 * s.iqMaxcnt }

/-- R76: the regions RADIO may touch during a session. -/
def State.sessionRegions (s : State) (kind : Session) : List Region :=
  if kind = .rx ∧ s.cteEnabled then [s.packetRegion, s.iqRegion] else [s.packetRegion]

/-- R180 step 7: the session starts, in the ramp-up state of its kind, with its regions fixed. -/
def State.beginSession (s : State) (kind : Session) : State :=
  { s with
    session := kind
    dmaRegions := s.sessionRegions kind
    radioState := if kind = .tx then .txru else .rxru }

/-- `SessionStart(kind)` of R180: the checks in the rule's order, the first failure deciding. Of several regions
outside RAM the fault names the first in R76's order (assumption 11). -/
def sessionStart (kind : Session) (s : State) : Out :=
  if s.busy then .refused .busy
  else if s.hfState ≠ .running then .refused .hfclkNotRunning
  else if s.unwrittenRegs kind ≠ [] then .refused (.unconfigured (s.unwrittenRegs kind))
  else if s.notAdmittedRegs kind ≠ [] then .refused (.notAdmitted (s.notAdmittedRegs kind))
  else if !s.pointersAligned kind then .refused .misaligned
  else
    match (s.sessionRegions kind).find? (fun g => !g.inRam s.memMap) with
    | some g => .fault (.dmaOutsideRam g.start)
    | none => .next (s.beginSession kind)

end Sys2Proof.Machine
end

