-- ==== Sys2Proof/Machine/Tasks.lean ====
section
/-!
DEFINITION. The meanings of the RADIO task registers (R24, R182 to R186).
-/

namespace Sys2Proof.Machine

/-- RADIO.TASKS_TXEN (R182): a write of 1 runs the session-start check for TX. -/
def execTasksTxen (op : BusOp) (s : State) : Out := taskAccess (sessionStart .tx) op s

/-- RADIO.TASKS_RXEN (R183): a write of 1 runs the session-start check for RX. -/
def execTasksRxen (op : BusOp) (s : State) : Out := taskAccess (sessionStart .rx) op s

/-- A HOST START (R184): admitted in TXIDLE and RXIDLE only. -/
def hostStart (s : State) : Out :=
  if s.radioState = .txidle ∨ s.radioState = .rxidle then .next s.startTask else .refused .badTaskState

/-- RADIO.TASKS_START (R184). -/
def execTasksStart (op : BusOp) (s : State) : Out := taskAccess hostStart op s

/-- RADIO.TASKS_STOP (R185): a write of 1 is refused, a write of 0 has no effect. -/
def execTasksStop (op : BusOp) (s : State) : Out := taskAccess (fun _ => .refused .unsupported) op s

/-- RADIO.TASKS_DISABLE (R186): a HOST write of 1 is refused, a write of 0 has no effect; the task itself is
`State.disableTask`, which only the shortcut runs. -/
def execTasksDisable (op : BusOp) (s : State) : Out := taskAccess (fun _ => .refused .unsupported) op s

end Sys2Proof.Machine
end

