-- ==== Sys2Proof/Machine/Dispatch.lean ====
section
/-! DEFINITION. One arm per instruction: the meaning of each row of spec/opcode_table.json (R170). -/

namespace Sys2Proof.Machine

def exec (i : Instr) (s : State) : Host.Outcome State Fault Refusal :=
  match i with
  | .clockTasksHfclkstart op => Sys2Proof.Machine.execClockTasksHfclkstart op s
  | .clockEventsHfclkstarted op => Sys2Proof.Machine.execClockEventsHfclkstarted op s
  | .tasksTxen op => Sys2Proof.Machine.execTasksTxen op s
  | .tasksRxen op => Sys2Proof.Machine.execTasksRxen op s
  | .tasksStart op => Sys2Proof.Machine.execTasksStart op s
  | .tasksStop op => Sys2Proof.Machine.execTasksStop op s
  | .tasksDisable op => Sys2Proof.Machine.execTasksDisable op s
  | .eventsReady op => Sys2Proof.Machine.execEventsReady op s
  | .eventsAddress op => Sys2Proof.Machine.execEventsAddress op s
  | .eventsPayload op => Sys2Proof.Machine.execEventsPayload op s
  | .eventsEnd op => Sys2Proof.Machine.execEventsEnd op s
  | .eventsDisabled op => Sys2Proof.Machine.execEventsDisabled op s
  | .eventsCrcok op => Sys2Proof.Machine.execEventsCrcok op s
  | .eventsCrcerror op => Sys2Proof.Machine.execEventsCrcerror op s
  | .eventsPhyend op => Sys2Proof.Machine.execEventsPhyend op s
  | .shorts op => Sys2Proof.Machine.execShorts op s
  | .intenset op => Sys2Proof.Machine.execIntenset op s
  | .intenclr op => Sys2Proof.Machine.execIntenclr op s
  | .crcstatus op => Sys2Proof.Machine.execCrcstatus op s
  | .rxmatch op => Sys2Proof.Machine.execRxmatch op s
  | .rxcrc op => Sys2Proof.Machine.execRxcrc op s
  | .packetptr op => Sys2Proof.Machine.execPacketptr op s
  | .frequency op => Sys2Proof.Machine.execFrequency op s
  | .txpower op => Sys2Proof.Machine.execTxpower op s
  | .mode op => Sys2Proof.Machine.execMode op s
  | .pcnf0 op => Sys2Proof.Machine.execPcnf0 op s
  | .pcnf1 op => Sys2Proof.Machine.execPcnf1 op s
  | .base0 op => Sys2Proof.Machine.execBase0 op s
  | .base1 op => Sys2Proof.Machine.execBase1 op s
  | .prefix0 op => Sys2Proof.Machine.execPrefix0 op s
  | .prefix1 op => Sys2Proof.Machine.execPrefix1 op s
  | .txaddress op => Sys2Proof.Machine.execTxaddress op s
  | .rxaddresses op => Sys2Proof.Machine.execRxaddresses op s
  | .crccnf op => Sys2Proof.Machine.execCrccnf op s
  | .crcpoly op => Sys2Proof.Machine.execCrcpoly op s
  | .crcinit op => Sys2Proof.Machine.execCrcinit op s
  | .state op => Sys2Proof.Machine.execState op s
  | .datawhiteiv op => Sys2Proof.Machine.execDatawhiteiv op s
  | .dfemode op => Sys2Proof.Machine.execDfemode op s
  | .cteinlineconf op => Sys2Proof.Machine.execCteinlineconf op s
  | .dfectrl1 op => Sys2Proof.Machine.execDfectrl1 op s
  | .dfectrl2 op => Sys2Proof.Machine.execDfectrl2 op s
  | .switchpattern op => Sys2Proof.Machine.execSwitchpattern op s
  | .clearpattern op => Sys2Proof.Machine.execClearpattern op s
  | .pselDfegpio0 op => Sys2Proof.Machine.execPselDfegpio0 op s
  | .pselDfegpio1 op => Sys2Proof.Machine.execPselDfegpio1 op s
  | .pselDfegpio2 op => Sys2Proof.Machine.execPselDfegpio2 op s
  | .pselDfegpio3 op => Sys2Proof.Machine.execPselDfegpio3 op s
  | .pselDfegpio4 op => Sys2Proof.Machine.execPselDfegpio4 op s
  | .pselDfegpio5 op => Sys2Proof.Machine.execPselDfegpio5 op s
  | .pselDfegpio6 op => Sys2Proof.Machine.execPselDfegpio6 op s
  | .pselDfegpio7 op => Sys2Proof.Machine.execPselDfegpio7 op s
  | .dfepacketPtr op => Sys2Proof.Machine.execDfepacketPtr op s
  | .dfepacketMaxcnt op => Sys2Proof.Machine.execDfepacketMaxcnt op s
  | .dfepacketAmount op => Sys2Proof.Machine.execDfepacketAmount op s
  | .power op => Sys2Proof.Machine.execPower op s
  | .advNonconnInd length advA advData => Sys2Proof.Machine.execAdvNonconnInd length advA advData s

end Sys2Proof.Machine
end

