-- ==== Sys2Proof/Machine/Bits.lean ====
section
/-!
DEFINITION. Bit streams in transmission order, first bit on air first (R13, R74).
-/

namespace Sys2Proof.Machine

/-- The first `n` bits of a value, least significant first. -/
def bitsOf {w : Nat} (n : Nat) (v : BitVec w) : List Bool := (List.range n).map v.getLsbD

/-- `BitsLsb(bytes)` of R13. -/
def bitsLsb (bytes : List Byte) : List Bool := bytes.flatMap (bitsOf 8)

/-- `BitsLsb32(w)` of R13. -/
def bitsLsb32 (w : Word) : List Bool := bitsOf 32 w

/-- The number whose bits are listed least significant first. -/
def natOfBits : List Bool → Nat
  | [] => 0
  | b :: rest => b.toNat + 2 * natOfBits rest

/-- The number whose bits are listed most significant first (R139). -/
def natOfBitsMsb (bits : List Bool) : Nat := bits.foldl (fun acc b => 2 * acc + b.toNat) 0

/-- `Byte(s, j)` of R13: the j-th byte of a stream. -/
def byteAt (bits : List Bool) (j : Nat) : Byte := BitVec.ofNat 8 (natOfBits ((bits.drop (8 * j)).take 8))

/-- The first `n` bytes of a stream. -/
def bytesOfStream : Nat → List Bool → List Byte
  | 0, _ => []
  | n + 1, bits => byteAt bits 0 :: bytesOfStream n (bits.drop 8)

/-- `n` bits of the received stream from position `pos` on: those AIR's frame lists, then free bits (R137,
assumption 6). -/
def streamBits : List Bool → Nat → Nat → Nat → List Bool
  | _, _, _, 0 => []
  | b :: rest, seed, pos, n + 1 => b :: streamBits rest seed (pos + 1) n
  | [], seed, pos, n + 1 => Config.freeAirBit seed pos :: streamBits [] seed (pos + 1) n

/-- `rx_stream[from .. from + n - 1]` (R52, R137). -/
def State.rxBits (s : State) (start n : Nat) : List Bool :=
  streamBits (s.rxFrame.bits.drop start) s.rxSeed start n

end Sys2Proof.Machine
end

