-- ==== Sys2Proof/Machine/Crc.lean ====
section
/-!
DEFINITION. The CRC-24 engine (spec/42_crc24.md R150 to R154).
-/

namespace Sys2Proof.Machine

/-- R151: the polynomial word with bit 0 used as 1 whatever was written. -/
def polyOf (poly : BitVec 24) : BitVec 24 := poly ||| 1#24

/-- `CrcStep(c, b, poly)` of R152: one input bit, in air order. -/
def crcStep (poly c : BitVec 24) (b : Bool) : BitVec 24 :=
  if (c.getLsbD 23).xor b then (c <<< 1) ^^^ polyOf poly else c <<< 1

/-- `Crc24(init, poly, bits)` of R152. -/
def crc24 (init poly : BitVec 24) (bits : List Bool) : BitVec 24 := bits.foldl (crcStep poly) init

/-- `CrcBits(c)` of R154: most significant bit first. -/
def crcBits (c : BitVec 24) : List Bool := (List.range 24).map fun k => c.getLsbD (23 - k)

/-- The 24-bit value received most significant bit first (R139). -/
def crcOfBits (bits : List Bool) : BitVec 24 := BitVec.ofNat 24 (natOfBitsMsb bits)

end Sys2Proof.Machine
end

