-- ==== Sys2Proof/Machine/Whitening.lean ====
section
/-!
DEFINITION. The whitening engine (spec/43_whitening.md R160 to R163, R166). Position k of the register is bit k.
-/

namespace Sys2Proof.Machine

/-- `WhitenInit(iv)` of R160: position 6 - k takes bit k of DATAWHITEIV as read. -/
def whitenInit (iv : BitVec 7) : BitVec 7 :=
  BitVec.ofBool (iv.getLsbD 0) ++ BitVec.ofBool (iv.getLsbD 1) ++ BitVec.ofBool (iv.getLsbD 2) ++
    BitVec.ofBool (iv.getLsbD 3) ++ BitVec.ofBool (iv.getLsbD 4) ++ BitVec.ofBool (iv.getLsbD 5) ++
    BitVec.ofBool (iv.getLsbD 6)

/-- The whitening bit of `WhitenStep` (R161): position 6. -/
def whitenBit (p : BitVec 7) : Bool := p.getLsbD 6

/-- The next register of `WhitenStep` (R161): every position moves up by one, position 6 re-enters at position 0 and
is XORed into position 4. -/
def whitenNext (p : BitVec 7) : BitVec 7 := (p <<< 1) ^^^ (if whitenBit p then 0x11#7 else 0#7)

/-- The register after `n` steps. -/
def whitenAdvance : Nat → BitVec 7 → BitVec 7
  | 0, p => p
  | n + 1, p => whitenAdvance n (whitenNext p)

/-- `Whiten(p, bits)` of R163. -/
def whiten : BitVec 7 → List Bool → List Bool
  | _, [] => []
  | p, b :: rest => b.xor (whitenBit p) :: whiten (whitenNext p) rest

/-- The stream as the framer passes it: whitened when PCNF1.WHITEEN = 1, unchanged otherwise (R162, R166). -/
def whitenIf (on : Bool) (p : BitVec 7) (bits : List Bool) : List Bool := if on then whiten p bits else bits

/-- The register after the framer has passed `n` bits (R163: it is not reloaded within a frame). -/
def whitenAfter (on : Bool) (p : BitVec 7) (n : Nat) : BitVec 7 := if on then whitenAdvance n p else p

end Sys2Proof.Machine
end

