-- ==== Sys2Proof/Machine/Framer.lean ====
section
/-!
DEFINITION. The framer: RADIO's serialisation of a packet buffer to air bits (R131 to R136) and its deserialisation of
air bits to a packet buffer (R137 to R139). Each phase is one atomic RADIO step.
-/

namespace Sys2Proof.Machine

/-- `Preamble(AA)` of R132: eight alternating bits, the first equal to AA[0]. -/
def preamble (aa : Word) : List Bool := (List.range 8).map fun k => (aa.getLsbD 0).xor (decide (k % 2 = 1))

/-- The packet bytes RADIO transmits: S0, LENGTH and LENGTH payload bytes, read by DMA (R133, R134). -/
def State.txPacket (s : State) : List Byte :=
  s.ramByte s.packetPtr :: s.ramByte (s.packetPtr + 1) ::
    s.ramBytes (s.packetPtr + 2) (s.ramByte (s.packetPtr + 1)).toNat

/-- `TxFrameBits()` of R133, computed at once from the registers and RAM, for a LENGTH that R135 does not refuse. The
framer builds the same bits in three steps. -/
def State.txFrameBits (s : State) : List Bool :=
  let pdu := bitsLsb s.txPacket
  preamble s.accessAddress ++ bitsLsb32 s.accessAddress ++
    whitenIf s.whiteen (whitenInit s.whiteIv) (pdu ++ crcBits (crc24 s.crcInit s.crcPoly pdu))

/-! ### Transmit (R134) -/

/-- Phase ADDR of TX: preamble and access address, and the engines loaded for the frame (R134, R150, R160). -/
def State.txAddrStep (s : State) : State :=
  { s.signal .address with
    txBits := preamble s.accessAddress ++ bitsLsb32 s.accessAddress
    crcReg := s.crcInit
    whiteLfsr := whitenInit s.whiteIv
    phase := .payload }

/-- Phase PAYLOAD of TX for a LENGTH within MAXLEN (R134). -/
def State.txPayloadNext (s : State) : State :=
  let pdu := bitsLsb s.txPacket
  { s.signal .payload with
    curS0 := s.ramByte s.packetPtr
    curLen := s.ramByte (s.packetPtr + 1)
    crcReg := crc24 s.crcReg s.crcPoly pdu
    whiteLfsr := whitenAfter s.whiteen s.whiteLfsr pdu.length
    txBits := s.txBits ++ whitenIf s.whiteen s.whiteLfsr pdu
    phase := .crc }

/-- Phase PAYLOAD of TX: a LENGTH above MAXLEN is refused (R135). -/
def State.txPayloadStep (s : State) : Out :=
  if s.maxlen < (s.ramByte (s.packetPtr + 1)).toNat then .refused .txLengthOverMaxlen else .next s.txPayloadNext

/-- Phase CRC of TX (R134, R154). -/
def State.txCrcStep (s : State) : State :=
  { s.signal .end_ with
    whiteLfsr := whitenAfter s.whiteen s.whiteLfsr 24
    txBits := s.txBits ++ whitenIf s.whiteen s.whiteLfsr (crcBits s.crcReg)
    phase := .cte }

/-- The air-log record of a transmission (R136, R241). -/
def State.airRecord (s : State) : AirRecord :=
  { carrierMhz := s.carrierMhz
    bits := s.txBits
    cte8us := if s.cteEnabled then s.numberOf8us else 0 }

/-- Phase CTE of TX: log the frame, emit the CTE, signal PHYEND (R136, R241). -/
def State.txCteStep (s : State) : State :=
  { ({ s with airLog := s.airLog ++ [s.airRecord] } : State).signal .phyend with phase := .done }

/-! ### Receive (R137 to R139) -/

/-- What happens when AIR delivers a frame (R137). -/
def State.rxDeliver (s : State) (f : AirFrame) : State :=
  { s.signal .address with
    rxFrame := f
    rxSeed := s.tick
    rxMatch := 0#3
    crcReg := s.crcInit
    whiteLfsr := whitenInit s.whiteIv
    phase := .payload }

/-- The first `n` bits of the received stream, de-whitened: `d[0 .. n - 1]` of R138. -/
def State.rxPlain (s : State) (n : Nat) : List Bool := whitenIf s.whiteen s.whiteLfsr (s.rxBits 0 n)

/-- The S0 byte of the frame being received, `Byte(d, 0)` (R138). -/
def State.rxS0 (s : State) : Byte := byteAt (s.rxPlain 16) 0

/-- The LENGTH byte of the frame being received, `Byte(d, 1)` (R138). -/
def State.rxLen (s : State) : Byte := byteAt (s.rxPlain 16) 1

/-- The number of stream bits S0, LENGTH and the LENGTH payload bytes take (R138). -/
def pduBits (length : Byte) : Nat := 8 * (2 + length.toNat)

/-- The bytes RADIO stores at PACKETPTR: S0, LENGTH and at most MAXLEN payload bytes (R138). -/
def State.rxStored (s : State) : List Byte :=
  bytesOfStream (2 + min s.rxLen.toNat s.maxlen) (s.rxPlain (pduBits s.rxLen))

/-- Phase PAYLOAD of RX (R138). The whitening register moves past the bits consumed (R163, assumption 19). -/
def State.rxPayloadStep (s : State) : State :=
  { s.signal .payload with
    curS0 := s.rxS0
    curLen := s.rxLen
    ram := writeBytes s.ram s.packetPtr s.rxStored
    crcReg := crc24 s.crcReg s.crcPoly (s.rxPlain (pduBits s.rxLen))
    whiteLfsr := whitenAfter s.whiteen s.whiteLfsr (pduBits s.rxLen)
    phase := .crc }

/-- The 24 bits after the PDU, de-whitened, read most significant bit first (R139). -/
def State.rxCrcField (s : State) : BitVec 24 :=
  crcOfBits (whitenIf s.whiteen s.whiteLfsr (s.rxBits (pduBits s.curLen) 24))

/-- `rx_crc` of R139: the received field, or a draw when LENGTH is above MAXLEN. -/
def State.rxCrcValue (s : State) : BitVec 24 :=
  if s.curLen.toNat ≤ s.maxlen then s.rxCrcField else s.rxFrame.crcDraw

/-- `ok` of R139: the comparison, or a draw when LENGTH is above MAXLEN. -/
def State.rxCrcOk (s : State) : Bool :=
  if s.curLen.toNat ≤ s.maxlen then decide (s.rxCrcField = s.crcReg) else s.rxFrame.okDraw

/-- Phase CRC of RX (R139): END before CRCOK or CRCERROR (R278). -/
def State.rxCrcStep (s : State) : State :=
  { (s.signal .end_).signal (if s.rxCrcOk then .crcok else .crcerror) with
    rxCrc := s.rxCrcValue
    crcStatus := s.rxCrcOk
    whiteLfsr := whitenAfter s.whiteen s.whiteLfsr 24
    phase := .cte }

/-! ### IQ capture (R242, R243) -/

/-- The IQ words one capture writes: those the environment supplies, at most MAXCNT (R242: the count and the values
are draws). -/
def State.iqWords (s : State) : List Word := s.rxFrame.iq.take s.iqMaxcnt

/-- The capture of R242 when the session has a CTE; nothing otherwise. -/
def State.iqCapture (s : State) : State :=
  if s.cteEnabled then
    { s with
      ram := writeBytes s.ram s.iqPtr (s.iqWords.flatMap wordBytes)
      amount := BitVec.ofNat 16 s.iqWords.length }
  else s

/-- Phase CTE of RX (R242). -/
def State.rxCteStep (s : State) : State := { s.iqCapture.signal .phyend with phase := .done }

/-- An IQ word read as its pair of signed halves: I in bits [15:0], Q in bits [31:16] (R100). -/
def iqUnpack (w : Word) : IqSample := { i := w.extractLsb' 0 16, q := w.extractLsb' 16 16 }

/-- An IQ sample packed as a word (R100). -/
def iqPack (x : IqSample) : Word := x.q ++ x.i

end Sys2Proof.Machine
end

