-- ==== Sys2Proof/Machine/Host.lean ====
section
/-!
DEFINITION. The agent HOST: one statement of its script per step (R21, R104, R105, R170), with the RAM loads and
stores that race with DMA (R84).
-/

namespace Sys2Proof.Machine

/-- Go on from a next state; a fault or a refusal stands. -/
def andThen (o : Out) (f : State → State) : Out :=
  match o with
  | .next t => .next (f t)
  | .fault r => .fault r
  | .refused r => .refused r

/-- One bus access (R170): decode, then the meaning. A decode that R92 refuses ends the run. -/
def busAccess (a : BusAccess) (s : State) : Out :=
  match decodeAccess s.memMap a with
  | .ok i => exec i s
  | .error _ => .refused .badAccess

/-- The first byte of `[a, a + n)` that is not in RAM (R71). -/
def firstOutsideRam (m : MemMap) (a n : Nat) : Option Nat :=
  if n = 0 then none
  else if a < m.ramBase ∨ m.ramBase + m.ramSize ≤ a then some a
  else if m.ramBase + m.ramSize < a + n then some (m.ramBase + m.ramSize)
  else none

/-- The first byte of `[a, a + n)` that a session in flight may touch (R84). -/
def State.firstRace (s : State) (a n : Nat) : Option Nat :=
  if s.session = .none then none else ((List.range n).map fun k => a + k).find? s.inDma

/-- A HOST load or store of `[a, a + n)`: outside RAM it is outside the model (R71, assumption 16), on a byte of a
session in flight it faults (R84). DESIGN CHOICE: no rule orders the two; a statement that both leaves RAM and touches a
byte of a session in flight answers the refusal (assumption 33). -/
def hostRam (s : State) (a n : Nat) (t : State) : Out :=
  match firstOutsideRam s.memMap a n with
  | some b => .refused (.outsideBlock b)
  | none =>
    match s.firstRace a n with
    | some b => .fault (.dmaBufferRace b)
    | none => .next t

/-- The value of an expression (R105). -/
def State.eval (s : State) : Expr → Nat
  | .lit n => n
  | .word v => (s.wordVar v).toNat
  | .byteOf v i => (s.byteVar v i).toNat
  | .scaled k e => k * s.eval e

/-- Whether a condition holds (R105). -/
def State.holds (s : State) : Cond → Bool
  | .eq a b => decide (s.eval a = s.eval b)
  | .ne a b => decide (s.eval a ≠ s.eval b)
  | .ge a b => decide (s.eval b ≤ s.eval a)
  | .and a b => s.holds a && s.holds b
  | .or a b => s.holds a || s.holds b

/-- The packet image HOST's decoder reads from a byte variable (R140: all indexes are below 39). -/
def State.pduImageOf (s : State) (buf : Nat) : List Byte := (List.range pduImageLength).map (s.byteVar buf)

/-- `PduDecode(buf, expected)` (R140): the header byte is looked up (R95, R107); another header is no match (R96). -/
def State.runPduDecode (s : State) (buf : Nat) (expected : BitVec 48) : Out :=
  match decodePdu (s.pduImageOf buf) with
  | .ok i => exec i { s with filterAddr := expected }
  | .error _ => .next { s with filterAddr := expected, pduResult := .noMatch }

/-- The k-th IQ word of a byte variable, little-endian (R75, R256). -/
def State.iqWordOf (s : State) (iq k : Nat) : Word :=
  s.byteVar iq (4 * k + 3) ++ s.byteVar iq (4 * k + 2) ++ s.byteVar iq (4 * k + 1) ++ s.byteVar iq (4 * k)

/-- The result `receive` builds (R256). -/
def State.receivedResult (s : State) (buf cnt iq : Nat) : HostResult :=
  .received (advDataRead (s.byteVar buf 1))
    ((List.range (advDataRead (s.byteVar buf 1))).map fun k => s.byteVar buf (8 + k))
    (s.wordVar cnt).toNat
    ((List.range (s.wordVar cnt).toNat).map fun k => iqUnpack (s.iqWordOf iq k))

/-- The end of a `W` or `R` statement: the value read is bound, and the index advances (R104, R105). -/
def State.finishBus (bind : Option Nat) (t : State) : State :=
  match bind with
  | some v => (t.bindWord v t.busData).advance
  | none => t.advance

/-- The end of one read of a poll (R105): the index advances only when the read returned the value. -/
def State.finishPoll (value : Word) (t : State) : State := if t.busData = value then t.advance else t

/-- One statement (R104, R105). -/
def runStmt (st : Stmt) (s : State) : Out :=
  match st with
  | .bus a bind => andThen (busAccess a s) (State.finishBus bind)
  | .poll a value => andThen (busAccess { a with dir := .rd } s) (State.finishPoll value)
  | .store addr bytes => hostRam s addr.toNat bytes.length (s.storeBytes addr.toNat bytes).advance
  | .storeWord addr v => hostRam s addr.toNat 4 (s.storeBytes addr.toNat (wordBytes (s.wordVar v))).advance
  | .load addr n bind =>
    hostRam s addr.toNat (s.eval n) (s.bindBytes bind (s.ramBytes addr.toNat (s.eval n))).advance
  | .goto target => .next (s.jump target)
  | .ifGoto c target => .next (if s.holds c then s.jump target else s.advance)
  | .refuse r => .refused r
  | .pduDecode buf expected => andThen (s.runPduDecode buf expected) State.advance
  | .returnOk => .next ({ s with result := some .ok } : State).advance
  | .returnRejected => .next ({ s with result := some .rejected } : State).advance
  | .returnReceived buf cnt iq =>
    .next ({ s with result := some (s.receivedResult buf cnt iq) } : State).advance

/-- HOST's turn: the statement at `hpc`; past the last statement the script has ended (R105). -/
def hostStep (s : State) : Out :=
  match s.script[s.hpc]? with
  | some st => runStmt st s
  | none => .next s

end Sys2Proof.Machine
end

