-- ==== Sys2Proof/Machine/Radio.lean ====
section
/-!
DEFINITION. The steps of the agents RADIO (R187 to R191), CLOCK (R172) and AIR (R137).
-/

namespace Sys2Proof.Machine

/-- The disable step (R187). -/
def State.disableStep (s : State) : State :=
  ({ s with radioState := .disabled, session := .none, dmaRegions := [] } : State).signal .disabled

/-- The ramp-up steps (R189, R190). -/
def State.rampUp (s : State) (idle : RadioState) : State :=
  ({ s with radioState := idle } : State).signal .ready

/-- RADIO's step in state TX, by phase (R134, R191). -/
def State.txStep (s : State) : Out :=
  match s.phase with
  | .addr => .next s.txAddrStep
  | .payload => s.txPayloadStep
  | .crc => .next s.txCrcStep
  | .cte => .next s.txCteStep
  | .done => .next s
  | .search => .next s

/-- RADIO's own step in state RX, by phase (R191); SEARCH moves only when AIR delivers a frame (R137). -/
def State.rxStep (s : State) : Out :=
  match s.phase with
  | .search => .next s
  | .payload => .next s.rxPayloadStep
  | .crc => .next s.rxCrcStep
  | .cte => .next s.rxCteStep
  | .done => .next s
  | .addr => .next s

/-- Whether a step of RADIO is enabled: the rows of R191 that move without HOST or AIR, on a powered radio (R175). -/
def State.radioEnabled (s : State) : Bool :=
  s.powered &&
  match s.radioState with
  | .disabled => false
  | .txru => true
  | .rxru => true
  | .txidle => false
  | .rxidle => false
  | .tx => decide (s.phase ≠ .done) && decide (s.phase ≠ .search)
  | .rx => decide (s.phase ≠ .done) && decide (s.phase ≠ .search) && decide (s.phase ≠ .addr)
  | .txdisable => true
  | .rxdisable => true

/-- RADIO's turn: the complete step table of R191. Where no step is enabled the turn changes nothing (assumption 18).
Unpowered, RADIO takes no step (R175). -/
def radioStep (s : State) : Out :=
  if s.powered then
    match s.radioState with
    | .disabled => .next s
    | .txru => .next (s.rampUp .txidle)
    | .rxru => .next (s.rampUp .rxidle)
    | .txidle => .next s
    | .rxidle => .next s
    | .tx => s.txStep
    | .rx => s.rxStep
    | .txdisable => .next s.disableStep
    | .rxdisable => .next s.disableStep
  else .next s

/-- Whether CLOCK's step is enabled (R172). -/
def State.clockEnabled (s : State) : Bool := decide (s.hfState = .starting)

/-- CLOCK's turn (R172). -/
def clockStep (s : State) : State :=
  match s.hfState with
  | .starting => { s with hfState := .running, evHfclkStarted := true }
  | .off => s
  | .running => s

/-- R137: whether RADIO receives a transmission: it is searching, on the carrier, for the access address. -/
def State.hears (s : State) (f : AirFrame) : Bool :=
  s.powered && decide (s.radioState = .rx) && decide (s.phase = .search) && decide (f.carrier = s.carrierMhz) &&
    decide (f.aa = s.accessAddress)

/-- AIR's next transmission: the environment's list, then the free values (assumption 5). -/
def State.nextAir (s : State) : Option AirFrame :=
  match s.airIn with
  | f :: _ => some f
  | [] => Config.freeAir s.tick

/-- AIR's turn: one transmission goes over the ether; a transmission RADIO does not hear changes nothing (R137,
assumption 29). -/
def airStep (s : State) : State :=
  match s.nextAir with
  | none => s
  | some f =>
    if s.hears f then { s.rxDeliver f with airIn := s.airIn.tail } else { s with airIn := s.airIn.tail }

end Sys2Proof.Machine
end

