-- ==== Sys2Proof/Machine/Interleave.lean ====
section
/-!
DEFINITION. The interleaving of the four agents (R80, R170): the environment says who steps next, first by the list
the state holds, then by a free value. One agent steps at a time.
-/

namespace Sys2Proof.Machine

/-- Who steps next (R80, assumption 4). -/
def State.nextAgent (s : State) : Agent :=
  match s.turns with
  | a :: _ => a
  | [] => Config.freeAgent s.tick

/-- A step begins: the turn is taken and the step counted. -/
def State.beginTurn (s : State) : State := { s with turns := s.turns.tail, tick := s.tick + 1 }

/-- One agent's turn (R170). -/
def agentStep (a : Agent) (s : State) : Out :=
  match a with
  | .host => hostStep s
  | .radio => radioStep s
  | .clock => .next (clockStep s)
  | .air => .next (airStep s)

/-- One step of the machine (R170): whoever's turn it is steps; once the run has stopped, nobody does. -/
def machineStep (s : State) : Out := s.ifRunning (agentStep s.nextAgent s.beginTurn)

/-- A script with a statement put at an index; a script too short for it is filled up with the same statement. -/
def placeAt : List Stmt → Nat → Stmt → List Stmt
  | [], 0, st => [st]
  | _ :: rest, 0, st => st :: rest
  | [], n + 1, st => st :: placeAt [] n st
  | x :: rest, n + 1, st => x :: placeAt rest n st

/-- The state with a statement as HOST's next one, HOST's turn, and a run that has not stopped. -/
def State.withStmt (s : State) (st : Stmt) : State :=
  { s with script := placeAt s.script s.hpc st, turns := .host :: s.turns, fault := none, refused := none }

/-- The state that runs a code as its next step: a bus access as the statement at `hpc`, a packet image as the byte
variable 0 that a PduDecode statement at `hpc` reads (assumption 9). -/
def State.withCode (s : State) (c : Code) : State :=
  match c with
  | .bus a => s.withStmt (.bus a none)
  | .pdu bytes => (s.bindBytes 0 bytes).withStmt (.pduDecode 0 0#48)

end Sys2Proof.Machine
end

