-- ==== Sys2Proof/Machine/Step.lean ====
section
/-! DEFINITION. The machine's step, and the state that runs a given instruction next. -/

namespace Sys2Proof.Machine

/-- One step of the machine (R170). -/
def step (s : State) : Host.Outcome State Fault Refusal := machineStep s

/-- The state whose next step fetches and runs the instruction with bits `w` (assumptions 2 and 9). The opcode table
gives addresses at the default bases, so the two register blocks are placed there. -/
def State.withFetchWord (s : State) (nbits w : Nat) : State :=
  ({ s with memMap := { s.memMap with
      radioBase := MemMap.default.radioBase
      clockBase := MemMap.default.clockBase } } : State).withCode (codeOfTableWord nbits w)

end Sys2Proof.Machine
end

