-- ==== Sys2Proof/Machine/Names.lean ====
section
/-!
DEFINITION. Which instruction accesses which named register or event (R25, R91, R179), so that what holds of all of
them can be said once.
-/

namespace Sys2Proof.Machine

/-- The instruction that accesses a configuration register (R91). -/
def CfgReg.instr : CfgReg → BusOp → Instr
  | .shorts => .shorts
  | .packetptr => .packetptr
  | .frequency => .frequency
  | .txpower => .txpower
  | .mode => .mode
  | .pcnf0 => .pcnf0
  | .pcnf1 => .pcnf1
  | .base0 => .base0
  | .base1 => .base1
  | .prefix0 => .prefix0
  | .prefix1 => .prefix1
  | .txaddress => .txaddress
  | .rxaddresses => .rxaddresses
  | .crccnf => .crccnf
  | .crcpoly => .crcpoly
  | .crcinit => .crcinit
  | .datawhiteiv => .datawhiteiv
  | .dfemode => .dfemode
  | .cteinlineconf => .cteinlineconf
  | .dfectrl1 => .dfectrl1
  | .dfectrl2 => .dfectrl2
  | .pselDfegpio0 => .pselDfegpio0
  | .pselDfegpio1 => .pselDfegpio1
  | .pselDfegpio2 => .pselDfegpio2
  | .pselDfegpio3 => .pselDfegpio3
  | .pselDfegpio4 => .pselDfegpio4
  | .pselDfegpio5 => .pselDfegpio5
  | .pselDfegpio6 => .pselDfegpio6
  | .pselDfegpio7 => .pselDfegpio7
  | .dfepacketPtr => .dfepacketPtr
  | .dfepacketMaxcnt => .dfepacketMaxcnt

/-- The instruction that accesses an event register (R91). -/
def Event.instr : Event → BusOp → Instr
  | .ready => .eventsReady
  | .address => .eventsAddress
  | .payload => .eventsPayload
  | .end_ => .eventsEnd
  | .disabled => .eventsDisabled
  | .crcok => .eventsCrcok
  | .crcerror => .eventsCrcerror
  | .phyend => .eventsPhyend

/-- Whether an instruction accesses a RADIO register other than POWER (R175). -/
def isGatedByPower : Instr → Bool
  | .clockTasksHfclkstart _ => false
  | .clockEventsHfclkstarted _ => false
  | .power _ => false
  | .advNonconnInd _ _ _ => false
  | _ => true

end Sys2Proof.Machine
end

