-- ==== Sys2Proof/Machine/Channel.lean ====
section
/-!
DEFINITION. The channel map (spec/40_channel_map.md R120 to R123): pure functions, no state.
-/

namespace Sys2Proof.Machine

/-- `ChannelOffset(i)` of R120; none for an index above 39 (R122). -/
def channelOffset (i : Nat) : Option Nat :=
  if i ≤ 10 then some (4 + 2 * i)
  else if i ≤ 36 then some (28 + 2 * (i - 11))
  else if i = 37 then some 2
  else if i = 38 then some 26
  else if i = 39 then some 80
  else none

/-- `WhiteningSeed(i)` of R121; none for an index above 39 (R122). -/
def whiteningSeed (i : Nat) : Option Nat := if i ≤ 39 then some i else none

/-- R125: 0 to 36 are data channels, 37 to 39 primary advertising channels. -/
def isAdvertisingChannel (i : Nat) : Bool := decide (37 ≤ i) && decide (i ≤ 39)

end Sys2Proof.Machine
end

