-- ==== Sys2Proof/Machine/Procedures.lean ====
section
/-!
DEFINITION. The driver procedures as HOST scripts (R106, R220 to R222, R230, R250 to R256). Each is the list of
statements it expands to in place; what a procedure rejects before any access (statement 0) is decided when it
expands, from its arguments.
-/

namespace Sys2Proof.Machine

/-- The parameters of R10, those with a default holding it unless another value is given (D21, D23); claims are
quantified over them (assumption 26). -/
structure Params where
  /-- P_RX_BUF_LEN. -/
  rxBufLen : Nat
  /-- P_IQ_MAXCNT. -/
  iqMaxcnt : Nat
  /-- P_RX_CTE_LEN. -/
  rxCteLen : Nat := 20
  /-- P_TSWITCHSPACING. -/
  tSwitchSpacing : Nat := 2
  /-- P_TSAMPLESPACINGREF. -/
  tSampleSpacingRef : Nat := 3
  /-- P_TSAMPLESPACING. -/
  tSampleSpacing : Nat := 2
  /-- P_TSWITCHOFFSET, a 13-bit signed value. -/
  tSwitchOffset : Int
  /-- P_TSAMPLEOFFSET, 12 bits. -/
  tSampleOffset : Nat
  /-- P_ANT_PATTERN (D25). -/
  antPattern : List Byte
  /-- TX_BUF. -/
  txBuf : Word
  /-- RX_BUF. -/
  rxBuf : Word
  /-- IQ_BUF. -/
  iqBuf : Word
  /-- RAM_BASE, RAM_SIZE, RADIO_BASE and CLOCK_BASE. -/
  memMap : MemMap := MemMap.default
deriving DecidableEq, Repr

/-- Which antenna is selected in a slot of the CTE: the OPEN parameter P_ANT_PATTERN (R245); no value the model computes
depends on it. -/
def Params.antennaOf (p : Params) (slot : Nat) : Option Byte := p.antPattern[slot]?

/-- The three buffers of R10, D46. -/
def Params.buffers (p : Params) : List Region :=
  [{ start := p.txBuf.toNat, len := 41 }, { start := p.rxBuf.toNat, len := p.rxBufLen },
   { start := p.iqBuf.toNat, len := 4 * p.iqMaxcnt }]

/-- Whether two regions have no byte in common. -/
def Region.disjoint (g h : Region) : Bool := rangesDisjoint g.start g.len h.start h.len

/-- The three spacing codes within the codes R46 and R234 admit; R10 states their defaults only (assumption 26). -/
def Params.spacingsAdmitted (p : Params) : Bool :=
  decide (1 ≤ p.tSwitchSpacing) && decide (p.tSwitchSpacing ≤ 3) &&
  decide (1 ≤ p.tSampleSpacingRef) && decide (p.tSampleSpacingRef ≤ 6) &&
  decide (1 ≤ p.tSampleSpacing) && decide (p.tSampleSpacing ≤ 6)

/-- R10: the values the parameters may take. -/
def Params.admitted (p : Params) : Bool :=
  decide (41 ≤ p.rxBufLen) && decide (1 ≤ p.iqMaxcnt) && decide (p.iqMaxcnt ≤ 16383) &&
  (decide (p.rxCteLen = 0) || (decide (2 ≤ p.rxCteLen) && decide (p.rxCteLen ≤ 20))) && p.spacingsAdmitted &&
  decide (-4096 ≤ p.tSwitchOffset) && decide (p.tSwitchOffset < 4096) && decide (p.tSampleOffset < 4096) &&
  p.memMap.admitted && p.buffers.all (fun g => g.inRam p.memMap && decide (g.start % 4 = 0)) &&
  ({ start := p.txBuf.toNat, len := 41 } : Region).disjoint { start := p.rxBuf.toNat, len := p.rxBufLen } &&
  ({ start := p.txBuf.toNat, len := 41 } : Region).disjoint { start := p.iqBuf.toNat, len := 4 * p.iqMaxcnt } &&
  ({ start := p.rxBuf.toNat, len := p.rxBufLen } : Region).disjoint
    { start := p.iqBuf.toNat, len := 4 * p.iqMaxcnt }

/-- The statement that performs a register instruction (R104): `W` for a write, `R` with a variable for a read. -/
def stmtOf (m : MemMap) (i : Instr) (bind : Option Nat) : List Stmt :=
  match i.busAccess m with
  | some a => [.bus a bind]
  | none => []

/-- `W <reg>, <value>` (R104). -/
def writeStmt (m : MemMap) (reg : BusOp → Instr) (v : Word) : List Stmt := stmtOf m (reg (.wr v)) none

/-- `R <reg> -> <var>` (R104). -/
def readStmt (m : MemMap) (reg : BusOp → Instr) (var : Nat) : List Stmt := stmtOf m (reg .rd) (some var)

/-- `P <reg> == <value>` (R104). -/
def pollStmt (m : MemMap) (reg : BusOp → Instr) (v : Word) : List Stmt :=
  match (reg .rd).busAccess m with
  | some a => [.poll a v]
  | none => []

/-- `radio_init` (R220). -/
def radioInit (m : MemMap) : List Stmt :=
  writeStmt m .clockEventsHfclkstarted 0#32 ++ writeStmt m .clockTasksHfclkstart 1#32 ++
  pollStmt m .clockEventsHfclkstarted 1#32 ++ writeStmt m .power 0#32 ++ writeStmt m .power 1#32 ++
  writeStmt m .mode 0x00000003#32 ++ writeStmt m .crccnf 0x00000103#32 ++ writeStmt m .crcpoly 0x0000065B#32 ++
  writeStmt m .crcinit 0x00555555#32 ++ writeStmt m .base0 0x89BED600#32 ++ writeStmt m .prefix0 0x0000008E#32 ++
  writeStmt m .txaddress 0#32 ++ writeStmt m .rxaddresses 1#32 ++ writeStmt m .pcnf0 0x00000108#32 ++
  writeStmt m .pcnf1 0x02030027#32

/-- `set_channel(i)` (R221): refused for an index above 39 before any register write (R122). -/
def setChannel (m : MemMap) (i : Nat) : List Stmt :=
  match channelOffset i, whiteningSeed i with
  | some o, some seed =>
    writeStmt m .frequency (BitVec.ofNat 32 o) ++ writeStmt m .datawhiteiv (BitVec.ofNat 32 seed)
  | _, _ => [.refuse (.badChannel i)]

/-- `transmit_sync` (R222). -/
def transmitSync (m : MemMap) : List Stmt :=
  writeStmt m .shorts 0x00100001#32 ++ writeStmt m .eventsDisabled 0#32 ++ writeStmt m .tasksTxen 1#32 ++
  pollStmt m .eventsDisabled 1#32

/-- `CLEAR_EVENTS` (R106): the eight RADIO events, in this order. -/
def clearEvents (m : MemMap) : List Stmt :=
  writeStmt m .eventsReady 0#32 ++ writeStmt m .eventsAddress 0#32 ++ writeStmt m .eventsPayload 0#32 ++
  writeStmt m .eventsEnd 0#32 ++ writeStmt m .eventsDisabled 0#32 ++ writeStmt m .eventsCrcok 0#32 ++
  writeStmt m .eventsCrcerror 0#32 ++ writeStmt m .eventsPhyend 0#32

/-- R247: the CTE lengths that are no caller error. -/
def cteLengthOk (l : Nat) : Bool := decide (l = 0) || (decide (2 ≤ l) && decide (l ≤ 20))

/-- The DFECTRL1 word of R93, each number in its own field of R46: with the default spacings it is 0x00023280 + L. -/
def dfectrl1Word (p : Params) (l : Nat) : Word :=
  BitVec.ofNat 32 (l % 2 ^ 6 + 0x80 + p.tSwitchSpacing % 2 ^ 3 * 2 ^ 8 + p.tSampleSpacingRef % 2 ^ 3 * 2 ^ 12 +
    p.tSampleSpacing % 2 ^ 3 * 2 ^ 16)

/-- The DFECTRL2 word of R93. -/
def dfectrl2Word (p : Params) : Word :=
  (BitVec.ofInt 13 p.tSwitchOffset).zeroExtend 32 + BitVec.ofNat 32 (p.tSampleOffset % 2 ^ 12 * 2 ^ 16)

/-- `cte_configure(L, rx, iq_ptr)` (R230), with `rx` and `iq_ptr` as one optional pointer. -/
def cteConfigure (p : Params) (l : Nat) (iqPtr : Option Word) : List Stmt :=
  if cteLengthOk l then
    (if l = 0 then writeStmt p.memMap .dfemode 0#32
     else
       writeStmt p.memMap .dfemode 3#32 ++ writeStmt p.memMap .cteinlineconf 0#32 ++
       writeStmt p.memMap .dfectrl1 (dfectrl1Word p l) ++ writeStmt p.memMap .dfectrl2 (dfectrl2Word p)) ++
    (match iqPtr with
     | some a => writeStmt p.memMap .dfepacketMaxcnt (BitVec.ofNat 32 p.iqMaxcnt) ++ writeStmt p.memMap .dfepacketPtr a
     | none => [])
  else [.refuse .badCteLength]

/-- `M TX_BUF, 8 + n, PduEncode(address, payload, n)` (R251); more than 31 payload bytes are refused (R130). -/
def storePdu (buf : Word) (address : BitVec 48) (payload : List Byte) : List Stmt :=
  match pduEncode address payload with
  | .ok bytes => [.store buf bytes]
  | .error r => [.refuse r]

/-- The argument of `advertise` (R250). -/
structure Advertisement where
  address : BitVec 48
  payload : List Byte
  cteLength : Nat
deriving DecidableEq, Repr

/-- R250: whether `advertise` accepts its argument. -/
def Advertisement.accepted (adv : Advertisement) : Bool :=
  decide (adv.payload.length ≤ 31) && cteLengthOk adv.cteLength

/-- `advertise(adv)` (R250 to R252): a rejected call performs no access and returns `Rejected`. -/
def advertise (p : Params) (adv : Advertisement) : List Stmt :=
  if adv.accepted then
    storePdu p.txBuf adv.address adv.payload ++ writeStmt p.memMap .packetptr p.txBuf ++
    cteConfigure p adv.cteLength none ++ setChannel p.memMap 37 ++ transmitSync p.memMap ++ setChannel p.memMap 38 ++
    transmitSync p.memMap ++ setChannel p.memMap 39 ++ transmitSync p.memMap ++ [.returnOk]
  else [.returnRejected]

/-- The HOST variable `crc` of `receive` (a word). -/
def varCrc : Nat := 0

/-- The HOST variable `cnt` of `receive` (a word). -/
def varCnt : Nat := 1

/-- The HOST variable `buf` of `receive` (bytes). -/
def varBuf : Nat := 0

/-- The HOST variable `iq` of `receive` (bytes). -/
def varIq : Nat := 1

/-- `not RxMatch(crc, buf, addr)` of R255, in the condition grammar of R105: the negation of each conjunct, joined by
OR; `buf[1] >= 6` fails exactly when `5 >= buf[1]`. -/
def rxMismatch (address : BitVec 48) : Cond :=
  .or (.ne (.word varCrc) (.lit 1))
    (.or (.ne (.byteOf varBuf 0) (.lit 0x42))
      (.or (.ge (.lit 5) (.byteOf varBuf 1))
        (.or (.ne (.byteOf varBuf 2) (.lit (advAByte address 0).toNat))
          (.or (.ne (.byteOf varBuf 3) (.lit (advAByte address 1).toNat))
            (.or (.ne (.byteOf varBuf 4) (.lit (advAByte address 2).toNat))
              (.or (.ne (.byteOf varBuf 5) (.lit (advAByte address 3).toNat))
                (.or (.ne (.byteOf varBuf 6) (.lit (advAByte address 4).toNat))
                  (.ne (.byteOf varBuf 7) (.lit (advAByte address 5).toNat)))))))))

/-- `receive` up to its loop (R253). -/
def receiveSetup (p : Params) (channel : Nat) : List Stmt :=
  setChannel p.memMap channel ++ [.store p.rxBuf (List.replicate p.rxBufLen 0#8)] ++
  writeStmt p.memMap .packetptr p.rxBuf ++
  cteConfigure p p.rxCteLen (some p.iqBuf) ++ writeStmt p.memMap .shorts 0x00100001#32

/-- `receive(filter)` (R253 to R256), expanded at script index `base`: LOOP is the statement after the set-up. -/
def receive (p : Params) (base channel : Nat) (address : BitVec 48) : List Stmt :=
  receiveSetup p channel ++
  clearEvents p.memMap ++ writeStmt p.memMap .tasksRxen 1#32 ++ pollStmt p.memMap .eventsDisabled 1#32 ++
  readStmt p.memMap .crcstatus varCrc ++
  [.load p.rxBuf (.lit p.rxBufLen) varBuf,
   .ifGoto (rxMismatch address) (base + (receiveSetup p channel).length)] ++
  readStmt p.memMap .dfepacketAmount varCnt ++
  [.load p.iqBuf (.scaled 4 (.word varCnt)) varIq, .returnReceived varBuf varCnt varIq]

end Sys2Proof.Machine
end

