-- ==== Sys2Proof/Safety.lean ====
section
/-!
DEFINITION. The terms statements about runs are written in: the invariant of the machine, several steps of one agent,
fair runs, and what of a state is still unloaded.
-/

namespace Sys2Proof.Machine

/-- The kind of session that is in flight in each `radio_state` (R50, R53, R180, R187). -/
def RadioState.sessionOf : RadioState → Session
  | .disabled => .none
  | .rxru => .rx
  | .rxidle => .rx
  | .rx => .rx
  | .rxdisable => .rx
  | .txru => .tx
  | .txidle => .tx
  | .tx => .tx
  | .txdisable => .tx

/-- What every reachable state satisfies. -/
structure Inv (s : State) : Prop where
  /-- The address ranges are those R10 and R71 allow (assumption 1). -/
  map_admitted : s.memMap.admitted = true
  /-- RAM and the HOST variables are in their canonical form. -/
  ram_rises : Memory.wf s.ram = true
  word_vars_rise : keysRise s.wordVars = true
  byte_vars_rise : keysRise s.byteVars = true
  /-- Every byte that was written lies in RAM (R71, R72). -/
  ram_inside : ∀ c ∈ s.ram, s.memMap.ramBase ≤ c.1 ∧ c.1 < s.memMap.ramBase + s.memMap.ramSize
  /-- Every register holds what a write stores and nothing else (R11, R151), and the hardwired bit (R42). -/
  fields_kept : ∀ r, storeFields r (s.cfg.get r) = s.cfg.get r
  /-- The interrupt enable mask is 0 (R27). -/
  int_mask_zero : s.intMask = 0#32
  /-- RXMATCH is 0 (R29). -/
  rx_match_zero : s.rxMatch = 0#3
  /-- EVENTS_HFCLKSTARTED is set only once the HF clock runs (R23). -/
  hf_event : s.evHfclkStarted = true → s.hfState = .running
  /-- A session of the right kind is in flight exactly outside DISABLED (R50, R53). -/
  session_fits : s.session = s.radioState.sessionOf
  /-- The phase is one of the state's own (R51). -/
  phase_legal : (s.radioState = .tx → s.phase ≠ .search) ∧ (s.radioState = .rx → s.phase ≠ .addr)
  /-- The DMA regions are those R76 fixes, and none outside a session (R187). -/
  regions_fixed : s.dmaRegions = if s.session = .none then [] else s.sessionRegions s.session
  /-- A session in flight passed the checks of R180, and they still hold: nothing they read has changed. -/
  session_checked : s.session ≠ .none →
    s.powered = true ∧ s.hfState = .running ∧ s.unwrittenRegs s.session = [] ∧ s.notAdmittedRegs s.session = [] ∧
      s.pointersAligned s.session = true ∧ ∀ g ∈ s.dmaRegions, g.inRam s.memMap = true
  /-- DFEPACKET.AMOUNT never exceeds the largest MAXCNT (R49, R242). -/
  amount_bounded : s.amount.toNat ≤ 16383

/-- Go on from a next state with another step. -/
def bindOut (o : Out) (f : State → Out) : Out :=
  match o with
  | .next t => f t
  | .fault r => .fault r
  | .refused r => .refused r

/-- `n` RADIO steps in a row. -/
def radioRun : Nat → State → Out
  | 0, s => .next s
  | n + 1, s => bindOut (radioStep s) (radioRun n)

/-! ### Runs and fairness -/

/-- Whether the run has stopped (R270, R271). -/
def State.stopped (s : State) : Bool := s.fault.isSome || s.refused.isSome

/-- The state after `n` steps of the run from `s`; a run that has stopped stays as it is (R170). -/
def State.runState (s : State) : Nat → State
  | 0 => s
  | n + 1 => (s.runState n).settle (step (s.runState n))

/-- Whenever an agent's step is enabled in the run from `s`, that agent has a turn at that step or later, or the run
stops (R8). -/
def FairTo (a : Agent) (enabled : State → Bool) (s : State) : Prop :=
  ∀ n, enabled (s.runState n) = true →
    ∃ k, n ≤ k ∧ ((s.runState k).stopped = true ∨ (s.runState k).nextAgent = a)

/-- A fair run (R8, D4): every enabled RADIO or CLOCK step is eventually taken. AIR and HOST need not be served. -/
def FairRun (s : State) : Prop := FairTo .radio State.radioEnabled s ∧ FairTo .clock State.clockEnabled s

/-! ### Hidden registers -/

/-- The reception registers with no frame loaded. -/
def State.blankFrame (s : State) : State := { s with rxFrame := silentFrame, rxSeed := 0 }

/-- The framer's byte registers with no frame loaded. -/
def State.blankBytes (s : State) : State := { s with curLen := 0#8, curS0 := 0#8 }

/-- The two engines with no frame loaded. -/
def State.blankEngines (s : State) : State := { s with crcReg := 0#24, whiteLfsr := 0#7 }

/-- A state with the hidden registers that no frame has loaded yet blanked, by state and phase (R290: `phase`,
`crc_reg`, `white_lfsr`, `cur_len`, `cur_s0` and `rx_stream` are unspecified at reset and never read before a frame
loads them). -/
def State.forget (s : State) : State :=
  match s.radioState with
  | .tx =>
    match s.phase with
    | .addr => s.blankFrame.blankBytes.blankEngines
    | .payload => s.blankFrame.blankBytes
    | _ => s.blankFrame
  | .rx =>
    match s.phase with
    | .search => s.blankFrame.blankBytes.blankEngines
    | .payload => s.blankBytes
    | _ => s
  | _ => ({ s with phase := .done } : State).blankFrame.blankBytes.blankEngines

/-- An outcome with its next state's unloaded registers blanked. -/
def forgetOut (o : Out) : Out :=
  match o with
  | .next t => .next t.forget
  | .fault r => .fault r
  | .refused r => .refused r

/-- A bit stream with bit `k` inverted. -/
def flipAt : List Bool → Nat → List Bool
  | [], _ => []
  | b :: rest, 0 => (!b) :: rest
  | b :: rest, k + 1 => b :: flipAt rest k

/-- The CRC check of R155 on a received PDU stream and the 24 bits that follow it. -/
def crcPasses (init poly : BitVec 24) (pdu field : List Bool) : Bool :=
  decide (crcOfBits field = crc24 init poly pdu)

end Sys2Proof.Machine
end

