-- ==== Sys2Proof/Certificates/Slice0/Obligations.lean ====
section
/-!
DEFINITION. The statements for the provers. Each docstring names the rules of spec/ it formalises; what rests on a
choice of the model names the log entry.
-/

open Sys2Proof Sys2Proof.Machine

/-! ### Encoding -/

/-- O1. R90, R91, with the bit layout of assumption 2: the bits of a register access, at the default bases, decode to
its instruction, with every data word. -/
def Obligations.AccessBitsDecodeToTheInstruction : Prop :=
  ∀ (i : Instr) (a : BusAccess), i.busAccess MemMap.default = some a → decodeTableWord 96 (bitsOfAccess a) = some i

/-- O2. R90, R91, R94 to R99: on every memory map that assumption 1 admits, decoding the encoding of a
well-formed instruction gives it back, registers and PDU. -/
def Obligations.EncodedInstructionsDecodeToThemselves : Prop :=
  ∀ (m : MemMap) (i : Instr), m.admitted = true → i.wf = true → decode m (encode m i) = .ok i

/-- O3. R90, R107: each code has one meaning, on every memory map; the data word of a RD is 0, since R90 gives it
none. -/
def Obligations.DecodedCodesAreTheEncodings : Prop :=
  ∀ (m : MemMap) (c : Code) (i : Instr), decode m c = .ok i →
    (∀ a, c = .bus a → a.dir = .rd → a.data = 0#32) → encode m i = c

/-- O4. R92, R107: an access of another width, misaligned, unlisted, or in the wrong direction is refused, whatever the
state. That an address outside the two register blocks is refused too is R107's sentence, read by assumption 16 (R71
puts what lies there outside the model); two rows of an admitted memory map (assumption 1) share no address. -/
def Obligations.IllegalAccessesAreRefused : Prop :=
  ∀ (a : BusAccess) (s : State),
    (a.size ≠ .bits32 ∨ a.addr.toNat % 4 ≠ 0 ∨ (∀ row ∈ regTable, row.addr s.memMap ≠ a.addr.toNat) ∨
      (s.memMap.admitted = true ∧
        ∃ row ∈ regTable, row.addr s.memMap = a.addr.toNat ∧ row.access.allows a.op = false)) →
    busAccess a s = .refused .badAccess

/-- O5. R91, R95: words written out from the register map and the header byte decode to their rows (the direction and
data of a word that gives none are those of assumption 2). -/
def Obligations.TableWordsDecodeToTheirRows : Prop :=
  decodeTableWord 32 0x40000000 = some (.clockTasksHfclkstart (.wr 0#32)) ∧
  decodeTableWord 32 0x40001010 = some (.tasksDisable (.wr 0#32)) ∧
  decodeTableWord 32 0x4000116C = some (.eventsPhyend (.wr 0#32)) ∧
  decodeTableWord 32 0x40001400 = some (.crcstatus .rd) ∧
  decodeTableWord 32 0x40001554 = some (.datawhiteiv (.wr 0#32)) ∧
  decodeTableWord 32 0x4000194C = some (.pselDfegpio7 (.wr 0#32)) ∧
  decodeTableWord 32 0x40001FFC = some (.power (.wr 0#32)) ∧
  decodeTableWord 8 0x42 = some (.advNonconnInd 0#8 0#48 (List.replicate 31 0#8)) ∧
  decodeTableWord 8 0x40 = none ∧ decodeTableWord 32 0x40001540 = none

/-! ### The step -/

/-- O6. R170, R105, R140: on HOST's turn, a bus statement whose access decodes to an instruction is that instruction's
meaning, on the state whose turn has begun, and then the index advances and a bound variable takes the word read; a
PduDecode statement whose buffer decodes to the PDU row is that row's meaning, with the expected address of the call in
place (assumption 3), and then the index advances. -/
def Obligations.StepRunsTheDecodedInstruction : Prop :=
  ∀ s : State, s.fault = none → s.refused = none → s.nextAgent = .host →
    (∀ (a : BusAccess) (i : Instr) (bind : Option Nat), s.script[s.hpc]? = some (.bus a bind) →
      decode s.memMap (.bus a) = .ok i → i.wf = true →
      step s = andThen (exec i s.beginTurn) (State.finishBus bind)) ∧
    (∀ (buf : Nat) (expected : BitVec 48) (i : Instr), s.script[s.hpc]? = some (.pduDecode buf expected) →
      decode s.memMap (.pdu (s.pduImageOf buf)) = .ok i →
      step s = andThen (exec i { s.beginTurn with filterAddr := expected }) State.advance)

/-- O7. R8, R172, R191, R306: in every fair run, unless the run stops, an HF clock that is starting comes to run, and a
session with the PHYEND_DISABLE shortcut whose frame RADIO is sending, or AIR has delivered, comes to its end, with the
READY_START shortcut also one that is ramping up to transmit. Fairness is the premise FairRun (assumption 4). -/
def Obligations.FairRunsMakeProgress : Prop :=
  ∀ s : State, FairRun s →
    (s.hfState = .starting → ∃ n, (s.runState n).stopped = true ∨ (s.runState n).hfState = .running) ∧
    (s.radioEnabled = true → s.radioState ≠ .rxru → (s.radioState = .txru → s.readyStart = true) →
      s.phyendDisable = true →
      ∃ n, (s.runState n).stopped = true ∨
        ((s.runState n).radioState = .disabled ∧ (s.runState n).session = .none ∧
          (s.runState n).events.disabled = true))

/-- O8. R105: a poll reads the register; the index advances only when the read returns the value. -/
def Obligations.PollAdvancesOnlyOnTheValue : Prop :=
  ∀ (s t : State) (a : BusAccess) (v : Word),
    s.fault = none → s.refused = none → s.nextAgent = .host → s.script[s.hpc]? = some (.poll a v) →
    busAccess { a with dir := .rd } s.beginTurn = .next t →
    step s = .next (if t.busData = v then { t with hpc := t.hpc + 1 } else t)

/-- O9. R170, R270, R271: after a fault or a refusal the state is as before the step but for the recorded reason, and
no agent takes any further step. -/
def Obligations.AStoppedRunStaysStopped : Prop :=
  ∀ s : State, s.fault = none → s.refused = none →
    (∀ f, step s = .fault f →
      s.settle (step s) = { s with fault := some f } ∧ step (s.settle (step s)) = .fault f) ∧
    (∀ r, step s = .refused r →
      s.settle (step s) = { s with refused := some r } ∧ step (s.settle (step s)) = .refused r)

/-! ### The invariant and whole-machine rules -/

/-- O10. R60, R290: the reset state satisfies the invariant, with the default memory map and with every other that
assumption 1 admits. -/
def Obligations.ResetSatisfiesTheInvariant : Prop :=
  Inv State.reset ∧ ∀ m : MemMap, m.admitted = true → Inv { State.reset with memMap := m }

/-- O11. R11, R27, R42, R53, R72, R76, R179, R187: every step of every agent keeps the invariant, and the
memory map is the machine's own (R10). -/
def Obligations.EveryStepKeepsTheInvariant : Prop :=
  ∀ s t : State, Inv s → step s = .next t → Inv t ∧ t.memMap = s.memMap

/-- O12. R72, R76: RADIO's own steps change no byte of RAM outside the regions fixed at session start. -/
def Obligations.RadioWritesOnlyItsDmaRegions : Prop :=
  ∀ (s t : State) (a : Nat), Inv s → radioStep s = .next t → s.inDma a = false → t.ramByte a = s.ramByte a

/-- O13. R84: while a session is in flight, a HOST step that answers a next state leaves every byte of the DMA regions
as it was. -/
def Obligations.HostLeavesTheDmaRegions : Prop :=
  ∀ (s t : State) (a : Nat), s.session ≠ .none → hostStep s = .next t → s.inDma a = true →
    t.ramByte a = s.ramByte a

/-- O14. R181: no HOST access but the power-down, a POWER write with bit 0 clear, changes CRCSTATUS, RXMATCH, RXCRC or
DFEPACKET.AMOUNT. -/
def Obligations.OnlyPowerDownWritesStatusFromHost : Prop :=
  ∀ (i : Instr) (s t : State), exec i s = .next t → (∀ d : Word, d.getLsbD 0 = false → i ≠ .power (.wr d)) →
    t.crcStatus = s.crcStatus ∧ t.rxMatch = s.rxMatch ∧ t.rxCrc = s.rxCrc ∧ t.amount = s.amount

/-- O15. R78: no register read has a side effect; it changes the returned word only, and reading again returns the
same. -/
def Obligations.RegisterReadsHaveNoSideEffect : Prop :=
  ∀ (i : Instr) (s t : State), i.op = some .rd → exec i s = .next t →
    t = { s with busData := t.busData } ∧ exec i t = .next t

/-- O16. R70, R81: an instruction never touches RAM, the memory map, the HOST's script and variables, AIR, the log,
the turns or the run's outcome; those are the steps' own. -/
def Obligations.InstructionsLeaveMemoryAndAgentsAlone : Prop :=
  ∀ (i : Instr) (s t : State), exec i s = .next t →
    t.ram = s.ram ∧ t.memMap = s.memMap ∧ t.airLog = s.airLog ∧ t.airIn = s.airIn ∧
    t.script = s.script ∧ t.hpc = s.hpc ∧
    t.wordVars = s.wordVars ∧ t.byteVars = s.byteVars ∧ t.result = s.result ∧ t.turns = s.turns ∧
    t.tick = s.tick ∧ t.fault = s.fault ∧ t.refused = s.refused ∧ ∀ a, t.ramByte a = s.ramByte a

/-- O17. R172: CLOCK's step is enabled exactly when the clock is starting, and no step of any agent leads back from
RUNNING. -/
def Obligations.TheHfClockNeverStops : Prop :=
  (∀ s : State, s.hfState = .starting →
    clockStep s = { s with hfState := .running, evHfclkStarted := true }) ∧
  (∀ s : State, s.hfState ≠ .starting → clockStep s = s) ∧
  ∀ s t : State, step s = .next t → s.hfState = .running → t.hfState = .running

/-- O18. R136, R241, R285: a step appends at most one record to the air log, only RADIO's CTE step of a transmission
does, and nothing is ever removed. -/
def Obligations.TheAirLogOnlyGrows : Prop :=
  ∀ s t : State, step s = .next t →
    t.airLog = s.airLog ∨
      (s.nextAgent = .radio ∧ s.powered = true ∧ s.radioState = .tx ∧ s.phase = .cte ∧
        t.airLog = s.airLog ++ [s.airRecord])

/-- O19. R175, R278: while POWER = 0 every access to a RADIO register other than POWER is refused, RADIO takes no step,
and CLOCK's registers and step work as when it is powered. An access in the wrong direction is refused as BadAccess
first (R278); that RadioUnpowered comes before the register's own refusals is assumption 14, the model's inference. -/
def Obligations.AnUnpoweredRadioIsRefused : Prop :=
  ∀ s : State, s.powered = false →
    (∀ i : Instr, isGatedByPower i = true →
      (i.wf = true → exec i s = .refused .radioUnpowered) ∧ (i.wf = false → exec i s = .refused .badAccess)) ∧
    radioStep s = .next s ∧ clockStep s = { clockStep { s with powered := true } with powered := false } ∧
    (∀ i : Instr, isGatedByPower i = false → ∀ t : State, exec i { s with powered := true } = .next t →
      ∃ u : State, exec i s = .next u ∧ u.hfState = t.hfState ∧ u.evHfclkStarted = t.evHfclkStarted)

/-- O20. R191, R224: a radio in phase DONE, or waiting in TXIDLE or RXIDLE with no HOST START, never reports its
session's end: in phase DONE every step leaves it where it is, and in TXIDLE or RXIDLE every step but a HOST write of 1
to TASKS_START does, a HOST poll among them; none sets an event flag. -/
def Obligations.ARadioThatIsDoneHangs : Prop :=
  (∀ s t : State, (s.radioState = .tx ∨ s.radioState = .rx) → s.phase = .done → step s = .next t →
    t.radioState = s.radioState ∧ t.phase = .done ∧ ∀ e : Event, t.events.get e = true → s.events.get e = true) ∧
  (∀ s t : State, (s.radioState = .txidle ∨ s.radioState = .rxidle) →
    (s.nextAgent = .host → ∀ (a : BusAccess) (bind : Option Nat) (d : Word), s.script[s.hpc]? = some (.bus a bind) →
      decode s.memMap (.bus a) = .ok (.tasksStart (.wr d)) → d.getLsbD 0 = false) →
    step s = .next t →
    t.radioState = s.radioState ∧ ∀ e : Event, t.events.get e = true → s.events.get e = true)

/-- O21. R290: the hidden registers that no frame has loaded are never read: two states that differ only in them
answer alike, and stay alike. -/
def Obligations.UnloadedRegistersAreNeverRead : Prop :=
  ∀ s t : State, s.forget = t.forget → forgetOut (step s) = forgetOut (step t)

/-- O22. R86: when HOST clears an event flag and RADIO signals it, both orders are admitted: cleared first it ends 1,
signalled first it ends 0. -/
def Obligations.ClearAndSignalInEitherOrder : Prop :=
  ∀ (s : State) (e : Event), s.powered = true →
    (∃ t : State, exec (e.instr (.wr 0#32)) s = .next t ∧ (t.signal e).events.get e = true) ∧
    (∃ t : State, exec (e.instr (.wr 0#32)) (s.signal e) = .next t ∧ t.events.get e = false)

/-! ### Tasks, events and registers -/

/-- O23. R180, R182: TXEN starts a transmit session when the checks pass; a write of 0 has no effect. -/
def Obligations.TxenStartsATransmitSession : Prop :=
  ∀ (s : State) (d : Word), s.powered = true →
    (d.getLsbD 0 = false → exec (.tasksTxen (.wr d)) s = .next s) ∧
    (d.getLsbD 0 = true → s.session = .none → s.radioState = .disabled → s.hfState = .running →
      (∀ r ∈ s.usedRegs .tx, s.written.get r = true ∧ s.admitted r = true) →
      s.packetPtr % 4 = 0 → s.memMap.ramBase ≤ s.packetPtr →
      s.packetPtr + (2 + s.maxlen) ≤ s.memMap.ramBase + s.memMap.ramSize →
      exec (.tasksTxen (.wr d)) s =
        .next { s with
          session := .tx
          radioState := .txru
          dmaRegions := [{ start := s.packetPtr, len := 2 + s.maxlen }] })

/-- O24. R180, R183, R76: RXEN starts a receive session when the checks pass, with the IQ region when the session has
a CTE; a write of 0 has no effect. -/
def Obligations.RxenStartsAReceiveSession : Prop :=
  ∀ (s : State) (d : Word), s.powered = true →
    (d.getLsbD 0 = false → exec (.tasksRxen (.wr d)) s = .next s) ∧
    (d.getLsbD 0 = true → s.session = .none → s.radioState = .disabled → s.hfState = .running →
      (∀ r ∈ s.usedRegs .rx, s.written.get r = true ∧ s.admitted r = true) →
      s.packetPtr % 4 = 0 → s.memMap.ramBase ≤ s.packetPtr →
      s.packetPtr + (2 + s.maxlen) ≤ s.memMap.ramBase + s.memMap.ramSize →
      (s.cteEnabled = true → s.iqPtr % 4 = 0 ∧ s.memMap.ramBase ≤ s.iqPtr ∧
        s.iqPtr + 4 * s.iqMaxcnt ≤ s.memMap.ramBase + s.memMap.ramSize) →
      exec (.tasksRxen (.wr d)) s =
        .next { s with
          session := .rx
          radioState := .rxru
          dmaRegions :=
            { start := s.packetPtr, len := 2 + s.maxlen } ::
              (if s.cteEnabled then [{ start := s.iqPtr, len := 4 * s.iqMaxcnt }] else []) })

/-- O25. R180: where TXEN and RXEN stop, in the rule's order. The registers named in steps 3 and 4 are all those that
fail (assumption 10), step 4 leaves the alignment and reach of the pointers to steps 5 and 6 (assumption 13), and the
fault names the packet region if that is outside RAM, else the IQ region (assumption 11). -/
def Obligations.SessionStartStopsInOrder : Prop :=
  ∀ (s : State) (kind : Session) (i : Instr) (d : Word), s.powered = true → d.getLsbD 0 = true →
    (kind = .tx ∧ i = .tasksTxen (.wr d) ∨ kind = .rx ∧ i = .tasksRxen (.wr d)) →
    (s.radioState ≠ .disabled ∨ s.session ≠ .none → exec i s = .refused .busy) ∧
    (s.radioState = .disabled → s.session = .none →
      (s.hfState ≠ .running → exec i s = .refused .hfclkNotRunning) ∧
      (s.hfState = .running →
        ((∃ r ∈ s.usedRegs kind, s.written.get r = false) →
          ∃ rs, exec i s = .refused (.unconfigured rs) ∧
            ∀ r, r ∈ rs ↔ r ∈ s.usedRegs kind ∧ s.written.get r = false) ∧
        ((∀ r ∈ s.usedRegs kind, s.written.get r = true) →
          ((∃ r ∈ s.usedRegs kind, s.admitted r = false) →
            ∃ rs, exec i s = .refused (.notAdmitted rs) ∧
              ∀ r, r ∈ rs ↔ r ∈ s.usedRegs kind ∧ s.admitted r = false) ∧
          ((∀ r ∈ s.usedRegs kind, s.admitted r = true) →
            (s.packetPtr % 4 ≠ 0 ∨ (kind = .rx ∧ s.cteEnabled = true ∧ s.iqPtr % 4 ≠ 0) →
              exec i s = .refused .misaligned) ∧
            (s.packetPtr % 4 = 0 → (kind = .rx → s.cteEnabled = true → s.iqPtr % 4 = 0) →
              (s.packetRegion.inRam s.memMap = false → exec i s = .fault (.dmaOutsideRam s.packetPtr)) ∧
              (s.packetRegion.inRam s.memMap = true → kind = .rx → s.cteEnabled = true →
                s.iqRegion.inRam s.memMap = false → exec i s = .fault (.dmaOutsideRam s.iqPtr)))))))

/-- O26. R184: a HOST START moves TXIDLE to TX and RXIDLE to RX; elsewhere it is refused; a write of 0 has no
effect. -/
def Obligations.HostStartLeavesIdle : Prop :=
  ∀ (s : State) (d : Word), s.powered = true →
    (d.getLsbD 0 = false → exec (.tasksStart (.wr d)) s = .next s) ∧
    (d.getLsbD 0 = true →
      (s.radioState = .txidle →
        exec (.tasksStart (.wr d)) s = .next { s with radioState := .tx, phase := .addr }) ∧
      (s.radioState = .rxidle →
        exec (.tasksStart (.wr d)) s = .next { s with radioState := .rx, phase := .search }) ∧
      (s.radioState ≠ .txidle → s.radioState ≠ .rxidle →
        exec (.tasksStart (.wr d)) s = .refused .badTaskState))

/-- O27. R185, R186: HOST writes of 1 to STOP and DISABLE are refused; writes of 0 have no effect. That bit 0 alone
decides, for words other than 0 and 1, is assumption 25. -/
def Obligations.StopAndDisableAreUnsupported : Prop :=
  ∀ (s : State) (d : Word), s.powered = true →
    (d.getLsbD 0 = false →
      exec (.tasksStop (.wr d)) s = .next s ∧ exec (.tasksDisable (.wr d)) s = .next s) ∧
    (d.getLsbD 0 = true →
      exec (.tasksStop (.wr d)) s = .refused .unsupported ∧
      exec (.tasksDisable (.wr d)) s = .refused .unsupported)

/-- O28. R171: HFCLKSTART by clock state, whatever RADIO's power; a write of 0 has no effect and a read is refused. -/
def Obligations.HfclkStartByClockState : Prop :=
  (∀ op : BusOp, decode MemMap.default (.bus (op.access 0x40000000#32)) = .ok (.clockTasksHfclkstart op)) ∧
  ∀ (s : State) (d : Word),
    exec (.clockTasksHfclkstart .rd) s = .refused .badAccess ∧
    (d.getLsbD 0 = false → exec (.clockTasksHfclkstart (.wr d)) s = .next s) ∧
    (d.getLsbD 0 = true →
      (s.hfState = .off → exec (.clockTasksHfclkstart (.wr d)) s = .next { s with hfState := .starting }) ∧
      (s.hfState = .starting → exec (.clockTasksHfclkstart (.wr d)) s = .next s) ∧
      (s.hfState = .running → exec (.clockTasksHfclkstart (.wr d)) s = .next { s with evHfclkStarted := true }))

/-- O29. R174: EVENTS_HFCLKSTARTED reads without clearing, is cleared by 0, and refuses every other value. -/
def Obligations.HfclkStartedEventAccess : Prop :=
  (∀ op : BusOp, decode MemMap.default (.bus (op.access 0x40000100#32)) = .ok (.clockEventsHfclkstarted op)) ∧
  ∀ s : State,
    exec (.clockEventsHfclkstarted .rd) s =
      .next { s with busData := if s.evHfclkStarted then 1#32 else 0#32 } ∧
    exec (.clockEventsHfclkstarted (.wr 0#32)) s = .next { s with evHfclkStarted := false } ∧
    ∀ d : Word, d ≠ 0#32 → exec (.clockEventsHfclkstarted (.wr d)) s = .refused .eventWriteNonZero

/-- O30. R177, R178: the eight RADIO event registers, in every radio state: a read returns the flag and keeps it, a
write of 0 clears that flag and no other, any other value is refused. -/
def Obligations.RadioEventAccess : Prop :=
  ∀ (s : State) (e : Event), s.powered = true →
    exec (e.instr .rd) s = .next { s with busData := if s.events.get e then 1#32 else 0#32 } ∧
    (∃ t : State, exec (e.instr (.wr 0#32)) s = .next t ∧ t.events.get e = false ∧
      (∀ e' : Event, e' ≠ e → t.events.get e' = s.events.get e') ∧ t = { s with events := t.events }) ∧
    ∀ d : Word, d ≠ 0#32 → exec (e.instr (.wr d)) s = .refused .eventWriteNonZero

/-- O31. R179, R188, R11, R42: a write to a configuration register with the radio idle stores its fields and marks it
written, and changes no other register and nothing else: SHORTS (for a word of its two bits), PACKETPTR to DATAWHITEIV,
DFEMODE to DFECTRL2, PSEL.DFEGPIO[0] to [7], DFEPACKET.PTR and DFEPACKET.MAXCNT. Of CRCPOLY the state holds the whole
word (R151) and a read shows the field only (assumption 23). -/
def Obligations.ConfigurationWriteStoresItsFields : Prop :=
  ∀ (s : State) (r : CfgReg) (d : Word), s.powered = true → s.session = .none → s.radioState = .disabled →
    (r = .shorts → d &&& ~~~0x00100001#32 = 0#32) →
    ∃ t : State, exec (r.instr (.wr d)) s = .next t ∧
      t.reg r = (d &&& fieldMask r) ||| hardwiredOnes r ∧ t.written.get r = true ∧
      (r = .crcpoly → t.cfg.crcpoly = d) ∧
      (∀ r' : CfgReg, r' ≠ r → t.reg r' = s.reg r' ∧ t.cfg.get r' = s.cfg.get r' ∧
        t.written.get r' = s.written.get r') ∧
      t = { s with cfg := t.cfg, written := t.written }

/-- O32. R179, R11, R42: a configuration register is readable in every state; it reads its fields, other bits 0, and
bit 6 of DATAWHITEIV 1. That bits [31:24] of CRCPOLY, which R151 stores, read 0 is assumption 23. -/
def Obligations.ConfigurationReadReturnsItsFields : Prop :=
  ∀ (s : State) (r : CfgReg), s.powered = true →
    ∃ v : Word, exec (r.instr .rd) s = .next { s with busData := v } ∧
      v = (s.cfg.get r &&& fieldMask r) ||| hardwiredOnes r ∧
      v &&& ~~~(fieldMask r ||| hardwiredOnes r) = 0#32 ∧ (r = .datawhiteiv → v.getLsbD 6 = true)

/-- O33. R295, R179: configuration, POWER and pattern writes outside DISABLED, or with a session in flight, are refused,
as configuration while busy; only a SHORTS write with an unsupported bit is refused for that bit first (R188). -/
def Obligations.BusyWritesAreRefused : Prop :=
  ∀ (s : State) (d : Word), s.powered = true → (s.session ≠ .none ∨ s.radioState ≠ .disabled) →
    (∀ r : CfgReg, ∃ x : Refusal, exec (r.instr (.wr d)) s = .refused x ∧
      (r ≠ .shorts ∨ d &&& ~~~0x00100001#32 = 0#32 → x = .configWhileBusy)) ∧
    exec (.switchpattern (.wr d)) s = .refused .configWhileBusy ∧
    exec (.clearpattern (.wr d)) s = .refused .configWhileBusy ∧
    exec (.power (.wr d)) s = .refused .configWhileBusy

/-- O34. R188, R26: a SHORTS write that sets a bit other than 0 and 20 is refused at the write; any other write stores
the two shortcut bits when the radio is idle and is refused when it is not; a read returns the stored bits. -/
def Obligations.ShortsHoldsTheTwoShortcuts : Prop :=
  (∀ op : BusOp, decode MemMap.default (.bus (op.access 0x40001200#32)) = .ok (.shorts op)) ∧
  ∀ (s : State) (d : Word), s.powered = true →
    (∀ k : Nat, d.getLsbD k = true → k ≠ 0 → k ≠ 20 → exec (.shorts (.wr d)) s = .refused .unsupported) ∧
    ((∀ k : Nat, d.getLsbD k = true → k = 0 ∨ k = 20) →
      (s.session = .none → s.radioState = .disabled →
        ∃ t : State, exec (.shorts (.wr d)) s = .next t ∧ t.readyStart = d.getLsbD 0 ∧
          t.phyendDisable = d.getLsbD 20 ∧ (∀ r : CfgReg, r ≠ .shorts → t.reg r = s.reg r) ∧
          t.written = { s.written with shorts := true } ∧ t = { s with cfg := t.cfg, written := t.written }) ∧
      (s.session ≠ .none ∨ s.radioState ≠ .disabled → exec (.shorts (.wr d)) s = .refused .configWhileBusy)) ∧
    ∃ v : Word, exec (.shorts .rd) s = .next { s with busData := v } ∧
      ∀ k : Nat, v.getLsbD k = ((decide (k = 0) && s.readyStart) || (decide (k = 20) && s.phyendDisable))

/-- O35. R27: any access to INTENSET or INTENCLR is refused, and the interrupt enable mask is 0 at reset and stays 0 on
every step. -/
def Obligations.InterruptEnablesAreRefusedAndHeldAtZero : Prop :=
  (∀ (s : State) (op : BusOp), ∃ x : Refusal, exec (.intenset op) s = .refused x ∧
    exec (.intenclr op) s = .refused x ∧ (s.powered = true → x = .unsupported)) ∧
  State.reset.intMask = 0#32 ∧ ∀ s t : State, s.intMask = 0#32 → step s = .next t → t.intMask = 0#32

/-- O36. R32, R216 to R219, R246: the five status registers of a powered radio read their fields, in every
state, and change nothing else. -/
def Obligations.StatusReadsReturnTheirFields : Prop :=
  ∀ s : State, s.powered = true →
    exec (.crcstatus .rd) s = .next { s with busData := if s.crcStatus then 1#32 else 0#32 } ∧
    exec (.rxmatch .rd) s = .next { s with busData := BitVec.ofNat 32 s.rxMatch.toNat } ∧
    exec (.rxcrc .rd) s = .next { s with busData := BitVec.ofNat 32 s.rxCrc.toNat } ∧
    exec (.dfepacketAmount .rd) s = .next { s with busData := BitVec.ofNat 32 s.amount.toNat } ∧
    ∃ v : Word, exec (.state .rd) s = .next { s with busData := v } ∧
      (v = 0#32 ↔ s.radioState = .disabled) ∧ (v = 1#32 ↔ s.radioState = .rxru) ∧
      (v = 2#32 ↔ s.radioState = .rxidle) ∧ (v = 3#32 ↔ s.radioState = .rx) ∧
      (v = 4#32 ↔ s.radioState = .rxdisable) ∧ (v = 9#32 ↔ s.radioState = .txru) ∧
      (v = 10#32 ↔ s.radioState = .txidle) ∧ (v = 11#32 ↔ s.radioState = .tx) ∧
      (v = 12#32 ↔ s.radioState = .txdisable)

/-- O37. R173, R60, R292: POWER written with bit 0 clear and then set (assumption 25), with the radio idle, leaves every
RADIO register at its reset value and unwritten, and touches neither CLOCK (assumption 32) nor RAM nor the air log; the
hidden registers but `tx_bits` keep what they hold (assumption 22). POWER reads back its bit in every state. -/
def Obligations.PowerCycleResetsTheRadio : Prop :=
  (∀ s : State, exec (.power .rd) s = .next { s with busData := if s.powered then 1#32 else 0#32 }) ∧
  ∀ (s : State) (d e : Word), s.session = .none → s.radioState = .disabled → d.getLsbD 0 = false →
    e.getLsbD 0 = true →
    (exec (.power (.wr e)) s = .next { s with powered := true }) ∧
    ∃ t u : State, exec (.power (.wr d)) s = .next t ∧ t.powered = false ∧ exec (.power (.wr e)) t = .next u ∧
      u.powered = true ∧ (∀ r : CfgReg, u.reg r = if r = .datawhiteiv then 0x40#32 else 0#32) ∧
      (∀ r : CfgReg, u.written.get r = false) ∧ (∀ ev : Event, u.events.get ev = false) ∧
      u = { s with
        powered := true
        cfg := u.cfg
        written := u.written
        events := u.events
        intMask := 0#32
        crcStatus := false
        rxMatch := 0#3
        rxCrc := 0#24
        amount := 0#16
        txBits := []
        antPattern := [] }

/-- O38. R236, R237: SWITCHPATTERN appends its low byte, CLEARPATTERN empties the list on a write of 1 and has no
effect on a write of 0; reads, and writes while the radio is busy, are refused; a power-down empties the list. That a
CLEARPATTERN write of 0 while busy is refused too, and that busy includes a radio outside DISABLED with no session, is
the reading of assumption 15; that bit 0 alone decides is assumption 25. -/
def Obligations.PatternWritesBuildTheList : Prop :=
  ∀ (s : State) (d : Word), s.powered = true →
    exec (.switchpattern .rd) s = .refused .badAccess ∧ exec (.clearpattern .rd) s = .refused .badAccess ∧
    (s.session ≠ .none ∨ s.radioState ≠ .disabled →
      exec (.switchpattern (.wr d)) s = .refused .configWhileBusy ∧
      exec (.clearpattern (.wr d)) s = .refused .configWhileBusy) ∧
    (s.session = .none → s.radioState = .disabled →
      exec (.switchpattern (.wr d)) s = .next { s with antPattern := s.antPattern ++ [BitVec.ofNat 8 d.toNat] } ∧
      (d.getLsbD 0 = true → exec (.clearpattern (.wr d)) s = .next { s with antPattern := [] }) ∧
      (d.getLsbD 0 = false → exec (.clearpattern (.wr d)) s = .next s) ∧
      ∃ t : State, exec (.power (.wr 0#32)) s = .next t ∧ t.antPattern = [])

/-! ### RADIO, CLOCK and AIR -/

/-- O39. R189, R190, R176: the ramp-up steps, with and without the READY_START shortcut. -/
def Obligations.RampUpReachesIdleOrStarts : Prop :=
  ∀ s : State, s.powered = true →
    (s.radioState = .txru → ∃ t : State, radioStep s = .next t ∧ t.events = { s.events with ready := true } ∧
      (s.readyStart = true → t.radioState = .tx ∧ t.phase = .addr) ∧
      (s.readyStart = false → t.radioState = .txidle ∧ t.phase = s.phase) ∧
      t = { s with events := t.events, radioState := t.radioState, phase := t.phase }) ∧
    (s.radioState = .rxru → ∃ t : State, radioStep s = .next t ∧ t.events = { s.events with ready := true } ∧
      (s.readyStart = true → t.radioState = .rx ∧ t.phase = .search) ∧
      (s.readyStart = false → t.radioState = .rxidle ∧ t.phase = s.phase) ∧
      t = { s with events := t.events, radioState := t.radioState, phase := t.phase })

/-- O40. R187: the disable step ends the session, frees the buffers and signals DISABLED; HOST may then write
configuration registers and reach the buffers again. -/
def Obligations.DisableStepEndsTheSession : Prop :=
  ∀ s : State, s.powered = true → (s.radioState = .txdisable ∨ s.radioState = .rxdisable) →
    ∃ t : State, radioStep s = .next t ∧
      t = { s with
        radioState := .disabled
        session := .none
        dmaRegions := []
        events := { s.events with disabled := true } } ∧
      t.busy = false ∧ ∀ a n, t.firstRace a n = none

/-- O41. R191, R175: no RADIO step is enabled in these states and phases, and where none is enabled RADIO's turn
changes nothing (assumption 18). -/
def Obligations.NoRadioStepWhenNoneIsEnabled : Prop :=
  ∀ s : State,
    ((s.powered = false ∨ s.radioState = .disabled ∨ s.radioState = .txidle ∨ s.radioState = .rxidle ∨
        ((s.radioState = .tx ∨ s.radioState = .rx) ∧ s.phase = .done) ∨
        (s.radioState = .rx ∧ s.phase = .search)) →
      s.radioEnabled = false) ∧
    (s.radioEnabled = false → radioStep s = .next s)

/-- O42. R134, R136, R176, R222, R241: from TXRU with both shortcuts armed and a LENGTH within MAXLEN, RADIO's next
six steps reach DISABLED with exactly one new log record, whose bits are TxFrameBits() of the registers and RAM; RAM,
the configuration and the receive status are unchanged. -/
def Obligations.TransmitSessionLogsTheFrame : Prop :=
  ∀ s : State, s.powered = true → s.radioState = .txru → s.readyStart = true → s.phyendDisable = true →
    (s.ramByte (s.packetPtr + 1)).toNat ≤ s.maxlen →
    ∃ t : State, radioRun 6 s = .next t ∧
      t.airLog = s.airLog ++
        [{ carrierMhz := 2400 + s.freqOffset.toNat
           bits := s.txFrameBits
           cte8us := if s.dfeOpMode = 3#2 then s.numberOf8us else 0 }] ∧
      t.radioState = .disabled ∧ t.session = .none ∧ t.dmaRegions = [] ∧
      t.events = { s.events with
        ready := true, address := true, payload := true, end_ := true, phyend := true, disabled := true } ∧
      t.ram = s.ram ∧ t.cfg = s.cfg ∧ t.written = s.written ∧ t.crcStatus = s.crcStatus ∧ t.rxCrc = s.rxCrc ∧
      t.rxMatch = s.rxMatch ∧ t.amount = s.amount ∧ t.antPattern = s.antPattern ∧ t.hfState = s.hfState

/-- O43. R135: a transmitted LENGTH above MAXLEN is refused at the PAYLOAD step. -/
def Obligations.OverlongTransmissionsAreRefused : Prop :=
  ∀ s : State, s.powered = true → s.radioState = .tx → s.phase = .payload →
    s.maxlen < (s.ramByte (s.packetPtr + 1)).toNat → radioStep s = .refused .txLengthOverMaxlen

/-- O44. R137: a transmission on the carrier with the access address, while the radio is searching, is received and
loads the engines; any other is lost and changes nothing but AIR's own list (assumption 29); silence changes nothing.
AIR's next transmission is the first of the list `airIn`, and with an empty list a free value (assumption 5); the seed
of the free bits past the frame's end is the step counter (assumption 6). -/
def Obligations.OnlyMatchingFramesAreReceived : Prop :=
  ∀ s : State,
    (∀ (f : AirFrame) (rest : List AirFrame), s.airIn = f :: rest → s.nextAir = some f) ∧
    (s.airIn = [] → s.nextAir = Config.freeAir s.tick) ∧ (s.nextAir = none → airStep s = s) ∧
    ∀ f : AirFrame, s.nextAir = some f →
      (s.powered = true → s.radioState = .rx → s.phase = .search → f.carrier = 2400 + s.freqOffset.toNat →
        f.aa = s.accessAddress →
        airStep s =
          { s with
            airIn := s.airIn.tail
            rxFrame := f
            rxSeed := s.tick
            rxMatch := 0#3
            crcReg := s.crcInit
            whiteLfsr := whitenInit s.whiteIv
            events := { s.events with address := true }
            phase := .payload }) ∧
      (s.powered = false ∨ s.radioState ≠ .rx ∨ s.phase ≠ .search ∨ f.carrier ≠ 2400 + s.freqOffset.toNat ∨
          f.aa ≠ s.accessAddress →
        airStep s = { s with airIn := s.airIn.tail })

/-- O45. R138: the receive PAYLOAD step stores S0, LENGTH and at most MAXLEN payload bytes of the de-whitened stream,
LENGTH as received, leaves the rest of RAM, and feeds every LENGTH byte to the CRC. -/
def Obligations.ReceivePayloadStoresAtMostMaxlen : Prop :=
  ∀ s : State, s.powered = true → s.radioState = .rx → s.phase = .payload →
    ∃ t : State, radioStep s = .next t ∧
      t.ramByte s.packetPtr = s.rxS0 ∧ t.ramByte (s.packetPtr + 1) = s.rxLen ∧
      (∀ j < 2 + min s.rxLen.toNat s.maxlen,
        t.ramByte (s.packetPtr + j) = byteAt (s.rxPlain (8 * (2 + s.rxLen.toNat))) j) ∧
      (∀ a, (a < s.packetPtr ∨ s.packetPtr + (2 + min s.rxLen.toNat s.maxlen) ≤ a) → t.ramByte a = s.ramByte a) ∧
      t.curS0 = s.rxS0 ∧ t.curLen = s.rxLen ∧
      t.crcReg = crc24 s.crcReg s.crcPoly (s.rxPlain (8 * (2 + s.rxLen.toNat))) ∧
      t.events = { s.events with payload := true } ∧ t.phase = .crc ∧ t.radioState = .rx

/-- O46. R139: the receive CRC step reports the received field and the comparison, or, for a LENGTH above MAXLEN, two
draws of the environment, whatever they are (assumption 5); END and exactly one of CRCOK and CRCERROR are signalled. -/
def Obligations.ReceiveCrcStepReportsTheCheck : Prop :=
  ∀ s : State, s.powered = true → s.radioState = .rx → s.phase = .crc →
    ∃ (t : State) (ok : Bool), radioStep s = .next t ∧ t.crcStatus = ok ∧
      (s.curLen.toNat ≤ s.maxlen → t.rxCrc = s.rxCrcField ∧ (ok = true ↔ s.rxCrcField = s.crcReg)) ∧
      (s.maxlen < s.curLen.toNat → t.rxCrc = s.rxFrame.crcDraw ∧ ok = s.rxFrame.okDraw) ∧
      t.events = { s.events with
        end_ := true
        crcok := s.events.crcok || ok
        crcerror := s.events.crcerror || !ok } ∧
      t.phase = .cte ∧ t.ram = s.ram

/-- O47. R242, R243, R75: the receive CTE step writes n ≤ MAXCNT IQ words little-endian at DFEPACKET.PTR and reports
n, whatever the CRC outcome, when the session has a CTE; otherwise RAM and AMOUNT are unchanged. The words are the
environment's (assumption 5). -/
def Obligations.CaptureWritesTheIqWords : Prop :=
  ∀ s : State, s.powered = true → s.radioState = .rx → s.phase = .cte →
    ∃ t : State, radioStep s = .next t ∧ t.phase = .done ∧ t.events = { s.events with phyend := true } ∧
      t.radioState = (if s.phyendDisable then .rxdisable else .rx) ∧
      (s.cteEnabled = true → ∃ words : List Word, words.length ≤ s.iqMaxcnt ∧ words <+: s.rxFrame.iq ∧
        t.amount.toNat = words.length ∧
        (∀ k w, words[k]? = some w → ∀ j < 4,
          t.ramByte (s.iqPtr + 4 * k + j) = BitVec.ofNat 8 (w.toNat / 2 ^ (8 * j))) ∧
        (∀ a, (a < s.iqPtr ∨ s.iqPtr + 4 * words.length ≤ a) → t.ramByte a = s.ramByte a)) ∧
      (s.cteEnabled = false → t.ram = s.ram ∧ t.amount = s.amount)

/-- O48. R143, R133, R137 to R139, R164: a frame sent by one radio and delivered (through the list `airIn`, assumption
5) to another that listens with the same CRC and whitening configuration puts the same bytes in its buffer, with
CRCSTATUS 1, whatever follows the frame. -/
def Obligations.ReceptionRecoversTheTransmittedPacket : Prop :=
  ∀ (a b : State) (f : AirFrame) (rest : List AirFrame) (junk : List Bool),
    a.whiteen = b.whiteen → a.whiteIv = b.whiteIv → a.crcInit = b.crcInit → a.crcPoly = b.crcPoly →
    (a.ramByte (a.packetPtr + 1)).toNat ≤ b.maxlen → b.airIn = f :: rest → b.hears f = true →
    f.bits = a.txFrameBits.drop 40 ++ junk →
    ∃ t : State, radioRun 2 (airStep b) = .next t ∧
      t.ramBytes b.packetPtr (2 + (a.ramByte (a.packetPtr + 1)).toNat) = a.txPacket ∧
      t.rxCrc = crc24 a.crcInit a.crcPoly (bitsLsb a.txPacket) ∧ t.crcStatus = true ∧
      t.events.crcok = true ∧ t.events.crcerror = b.events.crcerror ∧
      ∀ x, (x < b.packetPtr ∨ b.packetPtr + (2 + (a.ramByte (a.packetPtr + 1)).toNat) ≤ x) →
        t.ramByte x = b.ramByte x

/-! ### The engines -/

/-- O49. R155: the CRC of a stream followed by its own CRC bits is 0, for every seed and polynomial word. -/
def Obligations.CrcResidueIsZero : Prop :=
  ∀ (init poly : BitVec 24) (bits : List Bool),
    crc24 init poly (bits ++ crcBits (crc24 init poly bits)) = 0#24

/-- O50. R155: inverting any one bit of a PDU and its CRC field makes the check fail, for every seed and polynomial
word. -/
def Obligations.CrcDetectsEverySingleBitError : Prop :=
  ∀ (init poly : BitVec 24) (pdu : List Bool) (k : Nat), k < pdu.length + 24 →
    crcPasses init poly ((flipAt (pdu ++ crcBits (crc24 init poly pdu)) k).take pdu.length)
      ((flipAt (pdu ++ crcBits (crc24 init poly pdu)) k).drop pdu.length) = false

/-- O51. R152: from seed 0 the CRC is linear in its input. -/
def Obligations.CrcIsLinearFromZero : Prop :=
  ∀ (poly : BitVec 24) (xs ys : List Bool), xs.length = ys.length →
    crc24 0#24 poly (List.zipWith Bool.xor xs ys) = crc24 0#24 poly xs ^^^ crc24 0#24 poly ys

/-- O52. R156, R152: the engine's vectors, all eight rows. -/
def Obligations.CrcEngineVectors : Prop :=
  crc24 0x555555#24 0x00065B#24 [] = 0x555555#24 ∧
  crc24 0x555555#24 0x00065B#24 (bitsLsb [0x00#8]) = 0x54B947#24 ∧
  crc24 0x555555#24 0x00065B#24 (bitsLsb [0x42#8]) = 0x552331#24 ∧
  crc24 0x000000#24 0x00065B#24 (bitsLsb [0x01#8]) = 0x032D80#24 ∧
  crc24 0x000000#24 0x00065B#24 (bitsLsb [0x80#8]) = 0x00065B#24 ∧
  crc24 0x555555#24 0x00065B#24
    (bitsLsb [0x42#8, 0x06#8, 0x01#8, 0x02#8, 0x03#8, 0x04#8, 0x05#8, 0xC6#8]) = 0x1B4BF4#24 ∧
  crc24 0x555555#24 0x00065B#24
    (bitsLsb [0x42#8, 0x07#8, 0x01#8, 0x02#8, 0x03#8, 0x04#8, 0x05#8, 0xC6#8, 0xAA#8]) = 0x325B11#24 ∧
  crc24 0x555555#24 0x00065B#24
    (bitsLsb [0x42#8, 0x13#8, 0x01#8, 0x02#8, 0x03#8, 0x04#8, 0x05#8, 0xC6#8, 0x0B#8, 0x09#8, 0x65#8, 0x6D#8, 0x6C#8,
      0x6F#8, 0x67#8, 0x69#8, 0x63#8, 0x2E#8, 0x6E#8, 0x6F#8, 0x00#8]) = 0xFF66C5#24

/-- O53. R164, R163: whitening twice from the same start state gives the stream back, and the framer's two runs over
PDU and CRC bits are one run over both. -/
def Obligations.WhiteningIsItsOwnInverse : Prop :=
  (∀ (p : BitVec 7) (bits : List Bool), whiten p (whiten p bits) = bits) ∧
  ∀ (p : BitVec 7) (xs ys : List Bool),
    whiten p (xs ++ ys) = whiten p xs ++ whiten (whitenAdvance xs.length p) ys

/-- O54. R165, R161, R160: from a non-zero start the register never becomes zero and repeats with period exactly 127,
and every load from DATAWHITEIV is non-zero. -/
def Obligations.WhiteningHasPeriod127 : Prop :=
  (∀ (p : BitVec 7) (n : Nat), whitenAdvance (n + 127) p = whitenAdvance n p) ∧
  (∀ (p : BitVec 7) (n : Nat), p ≠ 0#7 → whitenAdvance n p ≠ 0#7) ∧
  (∀ (p : BitVec 7) (n : Nat), p ≠ 0#7 → 0 < n → n < 127 → whitenAdvance n p ≠ p) ∧
  ∀ s : State, whitenInit s.whiteIv ≠ 0#7

/-- O55. R142: for every payload of n bytes, n at most 31, the encoded PDU has 8 + n bytes and its byte 1, LENGTH, is
6 + n. -/
def Obligations.EncodedPduLength : Prop :=
  ∀ (address : BitVec 48) (payload : List Byte), payload.length ≤ 31 →
    ∃ bytes : List Byte, pduEncode address payload = .ok bytes ∧ bytes.length = 8 + payload.length ∧
      ∃ l : Byte, bytes[1]? = some l ∧ l.toNat = 6 + payload.length

/-- O56. R143, R130, R140, R141: a buffer that begins with an encoded PDU decodes, for the same address, to its payload
and length; for another address, to no match. -/
def Obligations.EncodedPduDecodesToItsPayload : Prop :=
  ∀ (address expected : BitVec 48) (payload pad : List Byte), payload.length ≤ 31 →
    ∃ bytes : List Byte, pduEncode address payload = .ok bytes ∧
      pduDecode (bytes ++ pad) address = .found payload.length payload ∧
      (expected ≠ address → pduDecode (bytes ++ pad) expected = .noMatch)

/-- O57. R95, R140, R141, with assumption 3: HOST's decoder on a PDU whose header is 0x42 completes, changes its
result only, and matches exactly when LENGTH is at least 6 and the address is the expected one. -/
def Obligations.PduRowComparesTheAddress : Prop :=
  ∀ (length : Byte) (advA : BitVec 48) (advData : List Byte) (s : State),
    ∃ r : PduResult, exec (.advNonconnInd length advA advData) s = .next { s with pduResult := r } ∧
      (length.toNat < 6 ∨ advA ≠ s.filterAddr → r = .noMatch) ∧
      (6 ≤ length.toNat → advA = s.filterAddr →
        r = .found (min (length.toNat - 6) 31) (advData.take (min (length.toNat - 6) 31)))

/-- O58. R120, R122, with R121: the channel map on every index; `set_channel` writes the pair to FREQUENCY and
DATAWHITEIV, and is refused above 39 before any register write, on every memory map. -/
def Obligations.ChannelMapMatchesTheAlgorithm : Prop :=
  (∀ i, i ≤ 10 → channelOffset i = some (4 + 2 * i)) ∧
  (∀ i, 11 ≤ i → i ≤ 36 → channelOffset i = some (28 + 2 * (i - 11))) ∧
  channelOffset 37 = some 2 ∧ channelOffset 38 = some 26 ∧ channelOffset 39 = some 80 ∧
  (∀ i o, channelOffset i = some o → 2 ≤ o ∧ o ≤ 80) ∧ (∀ i, i ≤ 39 → whiteningSeed i = some i) ∧
  (∀ i o, channelOffset i = some o →
    ∀ m : MemMap, setChannel m i =
      [.bus
         { addr := BitVec.ofNat 32 (m.radioBase + 0x508), size := .bits32, dir := .wr, data := BitVec.ofNat 32 o } none,
       .bus
         { addr := BitVec.ofNat 32 (m.radioBase + 0x554), size := .bits32, dir := .wr, data := BitVec.ofNat 32 i }
         none]) ∧
  ∀ i, 39 < i → channelOffset i = none ∧ whiteningSeed i = none ∧
    ∀ m : MemMap, setChannel m i = [.refuse (.badChannel i)]

/-! ### HOST and RAM -/

/-- O59. R84: a HOST load or store in RAM that reaches a byte of the DMA regions while a session is in flight faults,
naming the first such byte it reaches. That the statement is one step and names that byte is assumption 20: R84 says
the byte accessed. -/
def Obligations.BufferRacesFault : Prop :=
  ∀ (s : State) (addr : Word) (k n : Nat), s.session ≠ .none → s.memMap.ramBase ≤ addr.toNat →
    addr.toNat + n ≤ s.memMap.ramBase + s.memMap.ramSize → k < n → s.inDma (addr.toNat + k) = true →
    (∀ j < k, s.inDma (addr.toNat + j) = false) →
    (∀ bytes : List Byte, bytes.length = n → s.script[s.hpc]? = some (.store addr bytes) →
      hostStep s = .fault (.dmaBufferRace (addr.toNat + k))) ∧
    (∀ v : Nat, n = 4 → s.script[s.hpc]? = some (.storeWord addr v) →
      hostStep s = .fault (.dmaBufferRace (addr.toNat + k))) ∧
    (∀ (e : Expr) (v : Nat), s.eval e = n → s.script[s.hpc]? = some (.load addr e v) →
      hostStep s = .fault (.dmaBufferRace (addr.toNat + k)))

/-- O60. R70, R73, R104, R105: a HOST store or load in RAM clear of the DMA regions completes: the store changes exactly
its bytes, the store of a register image puts its four bytes least significant first, the load binds the bytes that RAM
holds and changes no byte. That the statement is one step, with all its bytes moved in it, is assumption 20, the
model's inference. -/
def Obligations.HostStoresAndLoadsComplete : Prop :=
  ∀ (s : State) (addr : Word) (n : Nat), s.memMap.ramBase ≤ addr.toNat →
    addr.toNat + n ≤ s.memMap.ramBase + s.memMap.ramSize →
    (s.session = .none ∨ ∀ k < n, s.inDma (addr.toNat + k) = false) →
    (∀ bytes : List Byte, bytes.length = n → s.script[s.hpc]? = some (.store addr bytes) →
      ∃ t : State, hostStep s = .next t ∧ t = { s with ram := t.ram, hpc := s.hpc + 1 } ∧
        (∀ k b, bytes[k]? = some b → t.ramByte (addr.toNat + k) = b) ∧
        ∀ a, (a < addr.toNat ∨ addr.toNat + n ≤ a) → t.ramByte a = s.ramByte a) ∧
    (∀ v : Nat, n = 4 → s.script[s.hpc]? = some (.storeWord addr v) →
      ∃ t : State, hostStep s = .next t ∧ t = { s with ram := t.ram, hpc := s.hpc + 1 } ∧
        (∀ k < 4, t.ramByte (addr.toNat + k) = BitVec.ofNat 8 ((s.wordVar v).toNat / 2 ^ (8 * k))) ∧
        ∀ a, (a < addr.toNat ∨ addr.toNat + 4 ≤ a) → t.ramByte a = s.ramByte a) ∧
    (∀ (e : Expr) (v : Nat), s.eval e = n → s.script[s.hpc]? = some (.load addr e v) →
      ∃ t : State, hostStep s = .next t ∧ t = { s with byteVars := t.byteVars, hpc := s.hpc + 1 } ∧
        ∀ k < n, t.byteVar v k = s.ramByte (addr.toNat + k))
end

