-- ==== Sys2Proof/Laws/PerInstr.lean ====
section
/-!
SUPPORT. A fact about every instruction as syntax, one lemma per constructor: its row of the register map (R91).
-/

namespace Sys2Proof

/-- R91, R107: the register map, looked up at the instruction's block and offset, gives its own row, with its own access code,
and the row makes this instruction from its operation; the PDU row is encoded with the header byte of R95. -/
def Laws.TableRow.Statement (i : Instr) : Prop :=
  match i.home, i.op with
  | some (b, offset), some op =>
    ∃ row, findRow b offset = some row ∧ some row.access = i.access ∧ row.make op = i
  | _, _ => ∀ m : MemMap, ∃ rest, encode m i = .pdu (advHeader :: rest)

theorem Laws.TableRow.clockTasksHfclkstart (op : BusOp) : Laws.TableRow.Statement (.clockTasksHfclkstart op) :=
  ⟨_, rfl, rfl, rfl⟩

theorem Laws.TableRow.clockEventsHfclkstarted (op : BusOp) : Laws.TableRow.Statement (.clockEventsHfclkstarted op) :=
  ⟨_, rfl, rfl, rfl⟩

theorem Laws.TableRow.tasksTxen (op : BusOp) : Laws.TableRow.Statement (.tasksTxen op) :=
  ⟨_, rfl, rfl, rfl⟩

theorem Laws.TableRow.tasksRxen (op : BusOp) : Laws.TableRow.Statement (.tasksRxen op) :=
  ⟨_, rfl, rfl, rfl⟩

theorem Laws.TableRow.tasksStart (op : BusOp) : Laws.TableRow.Statement (.tasksStart op) :=
  ⟨_, rfl, rfl, rfl⟩

theorem Laws.TableRow.tasksStop (op : BusOp) : Laws.TableRow.Statement (.tasksStop op) :=
  ⟨_, rfl, rfl, rfl⟩

theorem Laws.TableRow.tasksDisable (op : BusOp) : Laws.TableRow.Statement (.tasksDisable op) :=
  ⟨_, rfl, rfl, rfl⟩

theorem Laws.TableRow.eventsReady (op : BusOp) : Laws.TableRow.Statement (.eventsReady op) :=
  ⟨_, rfl, rfl, rfl⟩

theorem Laws.TableRow.eventsAddress (op : BusOp) : Laws.TableRow.Statement (.eventsAddress op) :=
  ⟨_, rfl, rfl, rfl⟩

theorem Laws.TableRow.eventsPayload (op : BusOp) : Laws.TableRow.Statement (.eventsPayload op) :=
  ⟨_, rfl, rfl, rfl⟩

theorem Laws.TableRow.eventsEnd (op : BusOp) : Laws.TableRow.Statement (.eventsEnd op) :=
  ⟨_, rfl, rfl, rfl⟩

theorem Laws.TableRow.eventsDisabled (op : BusOp) : Laws.TableRow.Statement (.eventsDisabled op) :=
  ⟨_, rfl, rfl, rfl⟩

theorem Laws.TableRow.eventsCrcok (op : BusOp) : Laws.TableRow.Statement (.eventsCrcok op) :=
  ⟨_, rfl, rfl, rfl⟩

theorem Laws.TableRow.eventsCrcerror (op : BusOp) : Laws.TableRow.Statement (.eventsCrcerror op) :=
  ⟨_, rfl, rfl, rfl⟩

theorem Laws.TableRow.eventsPhyend (op : BusOp) : Laws.TableRow.Statement (.eventsPhyend op) :=
  ⟨_, rfl, rfl, rfl⟩

theorem Laws.TableRow.shorts (op : BusOp) : Laws.TableRow.Statement (.shorts op) :=
  ⟨_, rfl, rfl, rfl⟩

theorem Laws.TableRow.intenset (op : BusOp) : Laws.TableRow.Statement (.intenset op) :=
  ⟨_, rfl, rfl, rfl⟩

theorem Laws.TableRow.intenclr (op : BusOp) : Laws.TableRow.Statement (.intenclr op) :=
  ⟨_, rfl, rfl, rfl⟩

theorem Laws.TableRow.crcstatus (op : BusOp) : Laws.TableRow.Statement (.crcstatus op) :=
  ⟨_, rfl, rfl, rfl⟩

theorem Laws.TableRow.rxmatch (op : BusOp) : Laws.TableRow.Statement (.rxmatch op) :=
  ⟨_, rfl, rfl, rfl⟩

theorem Laws.TableRow.rxcrc (op : BusOp) : Laws.TableRow.Statement (.rxcrc op) :=
  ⟨_, rfl, rfl, rfl⟩

theorem Laws.TableRow.packetptr (op : BusOp) : Laws.TableRow.Statement (.packetptr op) :=
  ⟨_, rfl, rfl, rfl⟩

theorem Laws.TableRow.frequency (op : BusOp) : Laws.TableRow.Statement (.frequency op) :=
  ⟨_, rfl, rfl, rfl⟩

theorem Laws.TableRow.txpower (op : BusOp) : Laws.TableRow.Statement (.txpower op) :=
  ⟨_, rfl, rfl, rfl⟩

theorem Laws.TableRow.mode (op : BusOp) : Laws.TableRow.Statement (.mode op) :=
  ⟨_, rfl, rfl, rfl⟩

theorem Laws.TableRow.pcnf0 (op : BusOp) : Laws.TableRow.Statement (.pcnf0 op) :=
  ⟨_, rfl, rfl, rfl⟩

theorem Laws.TableRow.pcnf1 (op : BusOp) : Laws.TableRow.Statement (.pcnf1 op) :=
  ⟨_, rfl, rfl, rfl⟩

theorem Laws.TableRow.base0 (op : BusOp) : Laws.TableRow.Statement (.base0 op) :=
  ⟨_, rfl, rfl, rfl⟩

theorem Laws.TableRow.base1 (op : BusOp) : Laws.TableRow.Statement (.base1 op) :=
  ⟨_, rfl, rfl, rfl⟩

theorem Laws.TableRow.prefix0 (op : BusOp) : Laws.TableRow.Statement (.prefix0 op) :=
  ⟨_, rfl, rfl, rfl⟩

theorem Laws.TableRow.prefix1 (op : BusOp) : Laws.TableRow.Statement (.prefix1 op) :=
  ⟨_, rfl, rfl, rfl⟩

theorem Laws.TableRow.txaddress (op : BusOp) : Laws.TableRow.Statement (.txaddress op) :=
  ⟨_, rfl, rfl, rfl⟩

theorem Laws.TableRow.rxaddresses (op : BusOp) : Laws.TableRow.Statement (.rxaddresses op) :=
  ⟨_, rfl, rfl, rfl⟩

theorem Laws.TableRow.crccnf (op : BusOp) : Laws.TableRow.Statement (.crccnf op) :=
  ⟨_, rfl, rfl, rfl⟩

theorem Laws.TableRow.crcpoly (op : BusOp) : Laws.TableRow.Statement (.crcpoly op) :=
  ⟨_, rfl, rfl, rfl⟩

theorem Laws.TableRow.crcinit (op : BusOp) : Laws.TableRow.Statement (.crcinit op) :=
  ⟨_, rfl, rfl, rfl⟩

theorem Laws.TableRow.state (op : BusOp) : Laws.TableRow.Statement (.state op) :=
  ⟨_, rfl, rfl, rfl⟩

theorem Laws.TableRow.datawhiteiv (op : BusOp) : Laws.TableRow.Statement (.datawhiteiv op) :=
  ⟨_, rfl, rfl, rfl⟩

theorem Laws.TableRow.dfemode (op : BusOp) : Laws.TableRow.Statement (.dfemode op) :=
  ⟨_, rfl, rfl, rfl⟩

theorem Laws.TableRow.cteinlineconf (op : BusOp) : Laws.TableRow.Statement (.cteinlineconf op) :=
  ⟨_, rfl, rfl, rfl⟩

theorem Laws.TableRow.dfectrl1 (op : BusOp) : Laws.TableRow.Statement (.dfectrl1 op) :=
  ⟨_, rfl, rfl, rfl⟩

theorem Laws.TableRow.dfectrl2 (op : BusOp) : Laws.TableRow.Statement (.dfectrl2 op) :=
  ⟨_, rfl, rfl, rfl⟩

theorem Laws.TableRow.switchpattern (op : BusOp) : Laws.TableRow.Statement (.switchpattern op) :=
  ⟨_, rfl, rfl, rfl⟩

theorem Laws.TableRow.clearpattern (op : BusOp) : Laws.TableRow.Statement (.clearpattern op) :=
  ⟨_, rfl, rfl, rfl⟩

theorem Laws.TableRow.pselDfegpio0 (op : BusOp) : Laws.TableRow.Statement (.pselDfegpio0 op) :=
  ⟨_, rfl, rfl, rfl⟩

theorem Laws.TableRow.pselDfegpio1 (op : BusOp) : Laws.TableRow.Statement (.pselDfegpio1 op) :=
  ⟨_, rfl, rfl, rfl⟩

theorem Laws.TableRow.pselDfegpio2 (op : BusOp) : Laws.TableRow.Statement (.pselDfegpio2 op) :=
  ⟨_, rfl, rfl, rfl⟩

theorem Laws.TableRow.pselDfegpio3 (op : BusOp) : Laws.TableRow.Statement (.pselDfegpio3 op) :=
  ⟨_, rfl, rfl, rfl⟩

theorem Laws.TableRow.pselDfegpio4 (op : BusOp) : Laws.TableRow.Statement (.pselDfegpio4 op) :=
  ⟨_, rfl, rfl, rfl⟩

theorem Laws.TableRow.pselDfegpio5 (op : BusOp) : Laws.TableRow.Statement (.pselDfegpio5 op) :=
  ⟨_, rfl, rfl, rfl⟩

theorem Laws.TableRow.pselDfegpio6 (op : BusOp) : Laws.TableRow.Statement (.pselDfegpio6 op) :=
  ⟨_, rfl, rfl, rfl⟩

theorem Laws.TableRow.pselDfegpio7 (op : BusOp) : Laws.TableRow.Statement (.pselDfegpio7 op) :=
  ⟨_, rfl, rfl, rfl⟩

theorem Laws.TableRow.dfepacketPtr (op : BusOp) : Laws.TableRow.Statement (.dfepacketPtr op) :=
  ⟨_, rfl, rfl, rfl⟩

theorem Laws.TableRow.dfepacketMaxcnt (op : BusOp) : Laws.TableRow.Statement (.dfepacketMaxcnt op) :=
  ⟨_, rfl, rfl, rfl⟩

theorem Laws.TableRow.dfepacketAmount (op : BusOp) : Laws.TableRow.Statement (.dfepacketAmount op) :=
  ⟨_, rfl, rfl, rfl⟩

theorem Laws.TableRow.power (op : BusOp) : Laws.TableRow.Statement (.power op) :=
  ⟨_, rfl, rfl, rfl⟩

theorem Laws.TableRow.advNonconnInd (length : Byte) (advA : BitVec 48) (advData : List Byte) :
    Laws.TableRow.Statement (.advNonconnInd length advA advData) := fun _ => ⟨_, rfl⟩

end Sys2Proof
end

