-- ==== Sys2Proof/Laws/Decode.lean ====
section
/-!
SUPPORT. Where the decoder finds a register: an admitted memory map locates every offset of a block at the block's own
base (R10, R70, R71).
-/

namespace Sys2Proof

/-- R71: the windows of an admitted memory map lie in the 32-bit address space, at multiples of 4. -/
theorem MemMap.base_of_admitted {m : MemMap} (h : m.admitted = true) (b : Block) :
    m.base b + blockSize ≤ 2 ^ 32 ∧ m.base b % 4 = 0 := by
  simp only [MemMap.admitted, Bool.and_eq_true, decide_eq_true_eq] at h
  cases b <;> simp only [MemMap.base] <;> omega

/-- R71: the windows of the two blocks have no address in common. -/
theorem MemMap.blocks_disjoint {m : MemMap} (h : m.admitted = true) :
    m.clockBase + blockSize ≤ m.radioBase ∨ m.radioBase + blockSize ≤ m.clockBase := by
  simp only [MemMap.admitted, rangesDisjoint, Bool.and_eq_true, Bool.or_eq_true, decide_eq_true_eq] at h
  omega

/-- R71: an offset of a block, from its base, is located in that block at that offset. -/
theorem MemMap.locate_base {m : MemMap} (h : m.admitted = true) (b : Block) {k : Nat} (hk : k < blockSize) :
    m.locate (m.base b + k) = some (b, k) := by
  have hd := MemMap.blocks_disjoint h
  unfold MemMap.locate
  cases b with
  | clock =>
    split
    · simp [MemMap.base]
    · rename_i hc
      exact absurd ⟨Nat.le_add_right _ _, Nat.add_lt_add_left hk _⟩ hc
  | radio =>
    split
    · rename_i hc
      simp only [MemMap.base] at hc
      omega
    · split
      · simp [MemMap.base]
      · rename_i hc
        exact absurd ⟨Nat.le_add_right _ _, Nat.add_lt_add_left hk _⟩ hc

/-- R71: an address is located where its base and offset put it. -/
theorem MemMap.base_of_locate {m : MemMap} {a k : Nat} {b : Block} (h : m.locate a = some (b, k)) :
    m.base b + k = a ∧ k < blockSize := by
  unfold MemMap.locate at h
  split at h
  · cases h
    simp only [MemMap.base]
    omega
  · split at h
    · cases h
      simp only [MemMap.base]
      omega
    · cases h

/-- R91: a row that is found stands at the block and the offset it was looked up at. -/
theorem findRow_some {b : Block} {k : Nat} {row : RegRow} (h : findRow b k = some row) :
    row ∈ regTable ∧ row.block = b ∧ row.offset = k := by
  have hp := List.find?_some h
  simp only [Bool.and_eq_true, decide_eq_true_eq, beq_iff_eq] at hp
  exact ⟨List.mem_of_find?_eq_some h, hp.1, hp.2⟩

end Sys2Proof
end

