-- ==== Sys2Proof/Laws/State.lean ====
section
/-!
SUPPORT. One lemma per field for each named update of the state, so that no proof unfolds a record update. The first
part holds by `rfl`; the second says which fields the state-dependent updates leave.
-/

namespace Sys2Proof.Machine

/-! ### `State.readBus` -/

@[simp] theorem State.readBus_memMap (s : State) (w : Word) : (s.readBus w).memMap = s.memMap := rfl
@[simp] theorem State.readBus_hfState (s : State) (w : Word) : (s.readBus w).hfState = s.hfState := rfl
@[simp] theorem State.readBus_evHfclkStarted (s : State) (w : Word) :
    (s.readBus w).evHfclkStarted = s.evHfclkStarted := rfl
@[simp] theorem State.readBus_powered (s : State) (w : Word) : (s.readBus w).powered = s.powered := rfl
@[simp] theorem State.readBus_cfg (s : State) (w : Word) : (s.readBus w).cfg = s.cfg := rfl
@[simp] theorem State.readBus_written (s : State) (w : Word) : (s.readBus w).written = s.written := rfl
@[simp] theorem State.readBus_events (s : State) (w : Word) : (s.readBus w).events = s.events := rfl
@[simp] theorem State.readBus_intMask (s : State) (w : Word) : (s.readBus w).intMask = s.intMask := rfl
@[simp] theorem State.readBus_crcStatus (s : State) (w : Word) : (s.readBus w).crcStatus = s.crcStatus := rfl
@[simp] theorem State.readBus_rxMatch (s : State) (w : Word) : (s.readBus w).rxMatch = s.rxMatch := rfl
@[simp] theorem State.readBus_rxCrc (s : State) (w : Word) : (s.readBus w).rxCrc = s.rxCrc := rfl
@[simp] theorem State.readBus_amount (s : State) (w : Word) : (s.readBus w).amount = s.amount := rfl
@[simp] theorem State.readBus_radioState (s : State) (w : Word) : (s.readBus w).radioState = s.radioState := rfl
@[simp] theorem State.readBus_phase (s : State) (w : Word) : (s.readBus w).phase = s.phase := rfl
@[simp] theorem State.readBus_session (s : State) (w : Word) : (s.readBus w).session = s.session := rfl
@[simp] theorem State.readBus_dmaRegions (s : State) (w : Word) : (s.readBus w).dmaRegions = s.dmaRegions := rfl
@[simp] theorem State.readBus_crcReg (s : State) (w : Word) : (s.readBus w).crcReg = s.crcReg := rfl
@[simp] theorem State.readBus_whiteLfsr (s : State) (w : Word) : (s.readBus w).whiteLfsr = s.whiteLfsr := rfl
@[simp] theorem State.readBus_curLen (s : State) (w : Word) : (s.readBus w).curLen = s.curLen := rfl
@[simp] theorem State.readBus_curS0 (s : State) (w : Word) : (s.readBus w).curS0 = s.curS0 := rfl
@[simp] theorem State.readBus_rxFrame (s : State) (w : Word) : (s.readBus w).rxFrame = s.rxFrame := rfl
@[simp] theorem State.readBus_rxSeed (s : State) (w : Word) : (s.readBus w).rxSeed = s.rxSeed := rfl
@[simp] theorem State.readBus_txBits (s : State) (w : Word) : (s.readBus w).txBits = s.txBits := rfl
@[simp] theorem State.readBus_antPattern (s : State) (w : Word) : (s.readBus w).antPattern = s.antPattern := rfl
@[simp] theorem State.readBus_ram (s : State) (w : Word) : (s.readBus w).ram = s.ram := rfl
@[simp] theorem State.readBus_script (s : State) (w : Word) : (s.readBus w).script = s.script := rfl
@[simp] theorem State.readBus_hpc (s : State) (w : Word) : (s.readBus w).hpc = s.hpc := rfl
@[simp] theorem State.readBus_busData (s : State) (w : Word) : (s.readBus w).busData = w := rfl
@[simp] theorem State.readBus_wordVars (s : State) (w : Word) : (s.readBus w).wordVars = s.wordVars := rfl
@[simp] theorem State.readBus_byteVars (s : State) (w : Word) : (s.readBus w).byteVars = s.byteVars := rfl
@[simp] theorem State.readBus_filterAddr (s : State) (w : Word) : (s.readBus w).filterAddr = s.filterAddr := rfl
@[simp] theorem State.readBus_pduResult (s : State) (w : Word) : (s.readBus w).pduResult = s.pduResult := rfl
@[simp] theorem State.readBus_result (s : State) (w : Word) : (s.readBus w).result = s.result := rfl
@[simp] theorem State.readBus_airIn (s : State) (w : Word) : (s.readBus w).airIn = s.airIn := rfl
@[simp] theorem State.readBus_airLog (s : State) (w : Word) : (s.readBus w).airLog = s.airLog := rfl
@[simp] theorem State.readBus_turns (s : State) (w : Word) : (s.readBus w).turns = s.turns := rfl
@[simp] theorem State.readBus_tick (s : State) (w : Word) : (s.readBus w).tick = s.tick := rfl
@[simp] theorem State.readBus_fault (s : State) (w : Word) : (s.readBus w).fault = s.fault := rfl
@[simp] theorem State.readBus_refused (s : State) (w : Word) : (s.readBus w).refused = s.refused := rfl

/-! ### `State.setEvent` -/

@[simp] theorem State.setEvent_memMap (s : State) (e : Event) (b : Bool) : (s.setEvent e b).memMap = s.memMap := rfl
@[simp] theorem State.setEvent_hfState (s : State) (e : Event) (b : Bool) :
    (s.setEvent e b).hfState = s.hfState := rfl
@[simp] theorem State.setEvent_evHfclkStarted (s : State) (e : Event) (b : Bool) :
    (s.setEvent e b).evHfclkStarted = s.evHfclkStarted := rfl
@[simp] theorem State.setEvent_powered (s : State) (e : Event) (b : Bool) :
    (s.setEvent e b).powered = s.powered := rfl
@[simp] theorem State.setEvent_cfg (s : State) (e : Event) (b : Bool) : (s.setEvent e b).cfg = s.cfg := rfl
@[simp] theorem State.setEvent_written (s : State) (e : Event) (b : Bool) :
    (s.setEvent e b).written = s.written := rfl
@[simp] theorem State.setEvent_events (s : State) (e : Event) (b : Bool) :
    (s.setEvent e b).events = s.events.set e b := rfl
@[simp] theorem State.setEvent_intMask (s : State) (e : Event) (b : Bool) :
    (s.setEvent e b).intMask = s.intMask := rfl
@[simp] theorem State.setEvent_crcStatus (s : State) (e : Event) (b : Bool) :
    (s.setEvent e b).crcStatus = s.crcStatus := rfl
@[simp] theorem State.setEvent_rxMatch (s : State) (e : Event) (b : Bool) :
    (s.setEvent e b).rxMatch = s.rxMatch := rfl
@[simp] theorem State.setEvent_rxCrc (s : State) (e : Event) (b : Bool) : (s.setEvent e b).rxCrc = s.rxCrc := rfl
@[simp] theorem State.setEvent_amount (s : State) (e : Event) (b : Bool) : (s.setEvent e b).amount = s.amount := rfl
@[simp] theorem State.setEvent_radioState (s : State) (e : Event) (b : Bool) :
    (s.setEvent e b).radioState = s.radioState := rfl
@[simp] theorem State.setEvent_phase (s : State) (e : Event) (b : Bool) : (s.setEvent e b).phase = s.phase := rfl
@[simp] theorem State.setEvent_session (s : State) (e : Event) (b : Bool) :
    (s.setEvent e b).session = s.session := rfl
@[simp] theorem State.setEvent_dmaRegions (s : State) (e : Event) (b : Bool) :
    (s.setEvent e b).dmaRegions = s.dmaRegions := rfl
@[simp] theorem State.setEvent_crcReg (s : State) (e : Event) (b : Bool) : (s.setEvent e b).crcReg = s.crcReg := rfl
@[simp] theorem State.setEvent_whiteLfsr (s : State) (e : Event) (b : Bool) :
    (s.setEvent e b).whiteLfsr = s.whiteLfsr := rfl
@[simp] theorem State.setEvent_curLen (s : State) (e : Event) (b : Bool) : (s.setEvent e b).curLen = s.curLen := rfl
@[simp] theorem State.setEvent_curS0 (s : State) (e : Event) (b : Bool) : (s.setEvent e b).curS0 = s.curS0 := rfl
@[simp] theorem State.setEvent_rxFrame (s : State) (e : Event) (b : Bool) :
    (s.setEvent e b).rxFrame = s.rxFrame := rfl
@[simp] theorem State.setEvent_rxSeed (s : State) (e : Event) (b : Bool) : (s.setEvent e b).rxSeed = s.rxSeed := rfl
@[simp] theorem State.setEvent_txBits (s : State) (e : Event) (b : Bool) : (s.setEvent e b).txBits = s.txBits := rfl
@[simp] theorem State.setEvent_antPattern (s : State) (e : Event) (b : Bool) :
    (s.setEvent e b).antPattern = s.antPattern := rfl
@[simp] theorem State.setEvent_ram (s : State) (e : Event) (b : Bool) : (s.setEvent e b).ram = s.ram := rfl
@[simp] theorem State.setEvent_script (s : State) (e : Event) (b : Bool) : (s.setEvent e b).script = s.script := rfl
@[simp] theorem State.setEvent_hpc (s : State) (e : Event) (b : Bool) : (s.setEvent e b).hpc = s.hpc := rfl
@[simp] theorem State.setEvent_busData (s : State) (e : Event) (b : Bool) :
    (s.setEvent e b).busData = s.busData := rfl
@[simp] theorem State.setEvent_wordVars (s : State) (e : Event) (b : Bool) :
    (s.setEvent e b).wordVars = s.wordVars := rfl
@[simp] theorem State.setEvent_byteVars (s : State) (e : Event) (b : Bool) :
    (s.setEvent e b).byteVars = s.byteVars := rfl
@[simp] theorem State.setEvent_filterAddr (s : State) (e : Event) (b : Bool) :
    (s.setEvent e b).filterAddr = s.filterAddr := rfl
@[simp] theorem State.setEvent_pduResult (s : State) (e : Event) (b : Bool) :
    (s.setEvent e b).pduResult = s.pduResult := rfl
@[simp] theorem State.setEvent_result (s : State) (e : Event) (b : Bool) : (s.setEvent e b).result = s.result := rfl
@[simp] theorem State.setEvent_airIn (s : State) (e : Event) (b : Bool) : (s.setEvent e b).airIn = s.airIn := rfl
@[simp] theorem State.setEvent_airLog (s : State) (e : Event) (b : Bool) : (s.setEvent e b).airLog = s.airLog := rfl
@[simp] theorem State.setEvent_turns (s : State) (e : Event) (b : Bool) : (s.setEvent e b).turns = s.turns := rfl
@[simp] theorem State.setEvent_tick (s : State) (e : Event) (b : Bool) : (s.setEvent e b).tick = s.tick := rfl
@[simp] theorem State.setEvent_fault (s : State) (e : Event) (b : Bool) : (s.setEvent e b).fault = s.fault := rfl
@[simp] theorem State.setEvent_refused (s : State) (e : Event) (b : Bool) :
    (s.setEvent e b).refused = s.refused := rfl

/-! ### `State.writeReg` -/

@[simp] theorem State.writeReg_memMap (s : State) (r : CfgReg) (d : Word) : (s.writeReg r d).memMap = s.memMap := rfl
@[simp] theorem State.writeReg_hfState (s : State) (r : CfgReg) (d : Word) :
    (s.writeReg r d).hfState = s.hfState := rfl
@[simp] theorem State.writeReg_evHfclkStarted (s : State) (r : CfgReg) (d : Word) :
    (s.writeReg r d).evHfclkStarted = s.evHfclkStarted := rfl
@[simp] theorem State.writeReg_powered (s : State) (r : CfgReg) (d : Word) :
    (s.writeReg r d).powered = s.powered := rfl
@[simp] theorem State.writeReg_cfg (s : State) (r : CfgReg) (d : Word) :
    (s.writeReg r d).cfg = s.cfg.set r (storeFields r d) := rfl
@[simp] theorem State.writeReg_written (s : State) (r : CfgReg) (d : Word) :
    (s.writeReg r d).written = s.written.set r true := rfl
@[simp] theorem State.writeReg_events (s : State) (r : CfgReg) (d : Word) : (s.writeReg r d).events = s.events := rfl
@[simp] theorem State.writeReg_intMask (s : State) (r : CfgReg) (d : Word) :
    (s.writeReg r d).intMask = s.intMask := rfl
@[simp] theorem State.writeReg_crcStatus (s : State) (r : CfgReg) (d : Word) :
    (s.writeReg r d).crcStatus = s.crcStatus := rfl
@[simp] theorem State.writeReg_rxMatch (s : State) (r : CfgReg) (d : Word) :
    (s.writeReg r d).rxMatch = s.rxMatch := rfl
@[simp] theorem State.writeReg_rxCrc (s : State) (r : CfgReg) (d : Word) : (s.writeReg r d).rxCrc = s.rxCrc := rfl
@[simp] theorem State.writeReg_amount (s : State) (r : CfgReg) (d : Word) : (s.writeReg r d).amount = s.amount := rfl
@[simp] theorem State.writeReg_radioState (s : State) (r : CfgReg) (d : Word) :
    (s.writeReg r d).radioState = s.radioState := rfl
@[simp] theorem State.writeReg_phase (s : State) (r : CfgReg) (d : Word) : (s.writeReg r d).phase = s.phase := rfl
@[simp] theorem State.writeReg_session (s : State) (r : CfgReg) (d : Word) :
    (s.writeReg r d).session = s.session := rfl
@[simp] theorem State.writeReg_dmaRegions (s : State) (r : CfgReg) (d : Word) :
    (s.writeReg r d).dmaRegions = s.dmaRegions := rfl
@[simp] theorem State.writeReg_crcReg (s : State) (r : CfgReg) (d : Word) : (s.writeReg r d).crcReg = s.crcReg := rfl
@[simp] theorem State.writeReg_whiteLfsr (s : State) (r : CfgReg) (d : Word) :
    (s.writeReg r d).whiteLfsr = s.whiteLfsr := rfl
@[simp] theorem State.writeReg_curLen (s : State) (r : CfgReg) (d : Word) : (s.writeReg r d).curLen = s.curLen := rfl
@[simp] theorem State.writeReg_curS0 (s : State) (r : CfgReg) (d : Word) : (s.writeReg r d).curS0 = s.curS0 := rfl
@[simp] theorem State.writeReg_rxFrame (s : State) (r : CfgReg) (d : Word) :
    (s.writeReg r d).rxFrame = s.rxFrame := rfl
@[simp] theorem State.writeReg_rxSeed (s : State) (r : CfgReg) (d : Word) : (s.writeReg r d).rxSeed = s.rxSeed := rfl
@[simp] theorem State.writeReg_txBits (s : State) (r : CfgReg) (d : Word) : (s.writeReg r d).txBits = s.txBits := rfl
@[simp] theorem State.writeReg_antPattern (s : State) (r : CfgReg) (d : Word) :
    (s.writeReg r d).antPattern = s.antPattern := rfl
@[simp] theorem State.writeReg_ram (s : State) (r : CfgReg) (d : Word) : (s.writeReg r d).ram = s.ram := rfl
@[simp] theorem State.writeReg_script (s : State) (r : CfgReg) (d : Word) : (s.writeReg r d).script = s.script := rfl
@[simp] theorem State.writeReg_hpc (s : State) (r : CfgReg) (d : Word) : (s.writeReg r d).hpc = s.hpc := rfl
@[simp] theorem State.writeReg_busData (s : State) (r : CfgReg) (d : Word) :
    (s.writeReg r d).busData = s.busData := rfl
@[simp] theorem State.writeReg_wordVars (s : State) (r : CfgReg) (d : Word) :
    (s.writeReg r d).wordVars = s.wordVars := rfl
@[simp] theorem State.writeReg_byteVars (s : State) (r : CfgReg) (d : Word) :
    (s.writeReg r d).byteVars = s.byteVars := rfl
@[simp] theorem State.writeReg_filterAddr (s : State) (r : CfgReg) (d : Word) :
    (s.writeReg r d).filterAddr = s.filterAddr := rfl
@[simp] theorem State.writeReg_pduResult (s : State) (r : CfgReg) (d : Word) :
    (s.writeReg r d).pduResult = s.pduResult := rfl
@[simp] theorem State.writeReg_result (s : State) (r : CfgReg) (d : Word) : (s.writeReg r d).result = s.result := rfl
@[simp] theorem State.writeReg_airIn (s : State) (r : CfgReg) (d : Word) : (s.writeReg r d).airIn = s.airIn := rfl
@[simp] theorem State.writeReg_airLog (s : State) (r : CfgReg) (d : Word) : (s.writeReg r d).airLog = s.airLog := rfl
@[simp] theorem State.writeReg_turns (s : State) (r : CfgReg) (d : Word) : (s.writeReg r d).turns = s.turns := rfl
@[simp] theorem State.writeReg_tick (s : State) (r : CfgReg) (d : Word) : (s.writeReg r d).tick = s.tick := rfl
@[simp] theorem State.writeReg_fault (s : State) (r : CfgReg) (d : Word) : (s.writeReg r d).fault = s.fault := rfl
@[simp] theorem State.writeReg_refused (s : State) (r : CfgReg) (d : Word) :
    (s.writeReg r d).refused = s.refused := rfl

/-! ### `State.storeBytes` -/

@[simp] theorem State.storeBytes_memMap (s : State) (a : Nat) (bytes : List Byte) :
    (s.storeBytes a bytes).memMap = s.memMap := rfl
@[simp] theorem State.storeBytes_hfState (s : State) (a : Nat) (bytes : List Byte) :
    (s.storeBytes a bytes).hfState = s.hfState := rfl
@[simp] theorem State.storeBytes_evHfclkStarted (s : State) (a : Nat) (bytes : List Byte) :
    (s.storeBytes a bytes).evHfclkStarted = s.evHfclkStarted := rfl
@[simp] theorem State.storeBytes_powered (s : State) (a : Nat) (bytes : List Byte) :
    (s.storeBytes a bytes).powered = s.powered := rfl
@[simp] theorem State.storeBytes_cfg (s : State) (a : Nat) (bytes : List Byte) :
    (s.storeBytes a bytes).cfg = s.cfg := rfl
@[simp] theorem State.storeBytes_written (s : State) (a : Nat) (bytes : List Byte) :
    (s.storeBytes a bytes).written = s.written := rfl
@[simp] theorem State.storeBytes_events (s : State) (a : Nat) (bytes : List Byte) :
    (s.storeBytes a bytes).events = s.events := rfl
@[simp] theorem State.storeBytes_intMask (s : State) (a : Nat) (bytes : List Byte) :
    (s.storeBytes a bytes).intMask = s.intMask := rfl
@[simp] theorem State.storeBytes_crcStatus (s : State) (a : Nat) (bytes : List Byte) :
    (s.storeBytes a bytes).crcStatus = s.crcStatus := rfl
@[simp] theorem State.storeBytes_rxMatch (s : State) (a : Nat) (bytes : List Byte) :
    (s.storeBytes a bytes).rxMatch = s.rxMatch := rfl
@[simp] theorem State.storeBytes_rxCrc (s : State) (a : Nat) (bytes : List Byte) :
    (s.storeBytes a bytes).rxCrc = s.rxCrc := rfl
@[simp] theorem State.storeBytes_amount (s : State) (a : Nat) (bytes : List Byte) :
    (s.storeBytes a bytes).amount = s.amount := rfl
@[simp] theorem State.storeBytes_radioState (s : State) (a : Nat) (bytes : List Byte) :
    (s.storeBytes a bytes).radioState = s.radioState := rfl
@[simp] theorem State.storeBytes_phase (s : State) (a : Nat) (bytes : List Byte) :
    (s.storeBytes a bytes).phase = s.phase := rfl
@[simp] theorem State.storeBytes_session (s : State) (a : Nat) (bytes : List Byte) :
    (s.storeBytes a bytes).session = s.session := rfl
@[simp] theorem State.storeBytes_dmaRegions (s : State) (a : Nat) (bytes : List Byte) :
    (s.storeBytes a bytes).dmaRegions = s.dmaRegions := rfl
@[simp] theorem State.storeBytes_crcReg (s : State) (a : Nat) (bytes : List Byte) :
    (s.storeBytes a bytes).crcReg = s.crcReg := rfl
@[simp] theorem State.storeBytes_whiteLfsr (s : State) (a : Nat) (bytes : List Byte) :
    (s.storeBytes a bytes).whiteLfsr = s.whiteLfsr := rfl
@[simp] theorem State.storeBytes_curLen (s : State) (a : Nat) (bytes : List Byte) :
    (s.storeBytes a bytes).curLen = s.curLen := rfl
@[simp] theorem State.storeBytes_curS0 (s : State) (a : Nat) (bytes : List Byte) :
    (s.storeBytes a bytes).curS0 = s.curS0 := rfl
@[simp] theorem State.storeBytes_rxFrame (s : State) (a : Nat) (bytes : List Byte) :
    (s.storeBytes a bytes).rxFrame = s.rxFrame := rfl
@[simp] theorem State.storeBytes_rxSeed (s : State) (a : Nat) (bytes : List Byte) :
    (s.storeBytes a bytes).rxSeed = s.rxSeed := rfl
@[simp] theorem State.storeBytes_txBits (s : State) (a : Nat) (bytes : List Byte) :
    (s.storeBytes a bytes).txBits = s.txBits := rfl
@[simp] theorem State.storeBytes_antPattern (s : State) (a : Nat) (bytes : List Byte) :
    (s.storeBytes a bytes).antPattern = s.antPattern := rfl
@[simp] theorem State.storeBytes_ram (s : State) (a : Nat) (bytes : List Byte) :
    (s.storeBytes a bytes).ram = writeBytes s.ram a bytes := rfl
@[simp] theorem State.storeBytes_script (s : State) (a : Nat) (bytes : List Byte) :
    (s.storeBytes a bytes).script = s.script := rfl
@[simp] theorem State.storeBytes_hpc (s : State) (a : Nat) (bytes : List Byte) :
    (s.storeBytes a bytes).hpc = s.hpc := rfl
@[simp] theorem State.storeBytes_busData (s : State) (a : Nat) (bytes : List Byte) :
    (s.storeBytes a bytes).busData = s.busData := rfl
@[simp] theorem State.storeBytes_wordVars (s : State) (a : Nat) (bytes : List Byte) :
    (s.storeBytes a bytes).wordVars = s.wordVars := rfl
@[simp] theorem State.storeBytes_byteVars (s : State) (a : Nat) (bytes : List Byte) :
    (s.storeBytes a bytes).byteVars = s.byteVars := rfl
@[simp] theorem State.storeBytes_filterAddr (s : State) (a : Nat) (bytes : List Byte) :
    (s.storeBytes a bytes).filterAddr = s.filterAddr := rfl
@[simp] theorem State.storeBytes_pduResult (s : State) (a : Nat) (bytes : List Byte) :
    (s.storeBytes a bytes).pduResult = s.pduResult := rfl
@[simp] theorem State.storeBytes_result (s : State) (a : Nat) (bytes : List Byte) :
    (s.storeBytes a bytes).result = s.result := rfl
@[simp] theorem State.storeBytes_airIn (s : State) (a : Nat) (bytes : List Byte) :
    (s.storeBytes a bytes).airIn = s.airIn := rfl
@[simp] theorem State.storeBytes_airLog (s : State) (a : Nat) (bytes : List Byte) :
    (s.storeBytes a bytes).airLog = s.airLog := rfl
@[simp] theorem State.storeBytes_turns (s : State) (a : Nat) (bytes : List Byte) :
    (s.storeBytes a bytes).turns = s.turns := rfl
@[simp] theorem State.storeBytes_tick (s : State) (a : Nat) (bytes : List Byte) :
    (s.storeBytes a bytes).tick = s.tick := rfl
@[simp] theorem State.storeBytes_fault (s : State) (a : Nat) (bytes : List Byte) :
    (s.storeBytes a bytes).fault = s.fault := rfl
@[simp] theorem State.storeBytes_refused (s : State) (a : Nat) (bytes : List Byte) :
    (s.storeBytes a bytes).refused = s.refused := rfl

/-! ### `State.bindWord` -/

@[simp] theorem State.bindWord_memMap (s : State) (v : Nat) (w : Word) : (s.bindWord v w).memMap = s.memMap := rfl
@[simp] theorem State.bindWord_hfState (s : State) (v : Nat) (w : Word) : (s.bindWord v w).hfState = s.hfState := rfl
@[simp] theorem State.bindWord_evHfclkStarted (s : State) (v : Nat) (w : Word) :
    (s.bindWord v w).evHfclkStarted = s.evHfclkStarted := rfl
@[simp] theorem State.bindWord_powered (s : State) (v : Nat) (w : Word) : (s.bindWord v w).powered = s.powered := rfl
@[simp] theorem State.bindWord_cfg (s : State) (v : Nat) (w : Word) : (s.bindWord v w).cfg = s.cfg := rfl
@[simp] theorem State.bindWord_written (s : State) (v : Nat) (w : Word) : (s.bindWord v w).written = s.written := rfl
@[simp] theorem State.bindWord_events (s : State) (v : Nat) (w : Word) : (s.bindWord v w).events = s.events := rfl
@[simp] theorem State.bindWord_intMask (s : State) (v : Nat) (w : Word) : (s.bindWord v w).intMask = s.intMask := rfl
@[simp] theorem State.bindWord_crcStatus (s : State) (v : Nat) (w : Word) :
    (s.bindWord v w).crcStatus = s.crcStatus := rfl
@[simp] theorem State.bindWord_rxMatch (s : State) (v : Nat) (w : Word) : (s.bindWord v w).rxMatch = s.rxMatch := rfl
@[simp] theorem State.bindWord_rxCrc (s : State) (v : Nat) (w : Word) : (s.bindWord v w).rxCrc = s.rxCrc := rfl
@[simp] theorem State.bindWord_amount (s : State) (v : Nat) (w : Word) : (s.bindWord v w).amount = s.amount := rfl
@[simp] theorem State.bindWord_radioState (s : State) (v : Nat) (w : Word) :
    (s.bindWord v w).radioState = s.radioState := rfl
@[simp] theorem State.bindWord_phase (s : State) (v : Nat) (w : Word) : (s.bindWord v w).phase = s.phase := rfl
@[simp] theorem State.bindWord_session (s : State) (v : Nat) (w : Word) : (s.bindWord v w).session = s.session := rfl
@[simp] theorem State.bindWord_dmaRegions (s : State) (v : Nat) (w : Word) :
    (s.bindWord v w).dmaRegions = s.dmaRegions := rfl
@[simp] theorem State.bindWord_crcReg (s : State) (v : Nat) (w : Word) : (s.bindWord v w).crcReg = s.crcReg := rfl
@[simp] theorem State.bindWord_whiteLfsr (s : State) (v : Nat) (w : Word) :
    (s.bindWord v w).whiteLfsr = s.whiteLfsr := rfl
@[simp] theorem State.bindWord_curLen (s : State) (v : Nat) (w : Word) : (s.bindWord v w).curLen = s.curLen := rfl
@[simp] theorem State.bindWord_curS0 (s : State) (v : Nat) (w : Word) : (s.bindWord v w).curS0 = s.curS0 := rfl
@[simp] theorem State.bindWord_rxFrame (s : State) (v : Nat) (w : Word) : (s.bindWord v w).rxFrame = s.rxFrame := rfl
@[simp] theorem State.bindWord_rxSeed (s : State) (v : Nat) (w : Word) : (s.bindWord v w).rxSeed = s.rxSeed := rfl
@[simp] theorem State.bindWord_txBits (s : State) (v : Nat) (w : Word) : (s.bindWord v w).txBits = s.txBits := rfl
@[simp] theorem State.bindWord_antPattern (s : State) (v : Nat) (w : Word) :
    (s.bindWord v w).antPattern = s.antPattern := rfl
@[simp] theorem State.bindWord_ram (s : State) (v : Nat) (w : Word) : (s.bindWord v w).ram = s.ram := rfl
@[simp] theorem State.bindWord_script (s : State) (v : Nat) (w : Word) : (s.bindWord v w).script = s.script := rfl
@[simp] theorem State.bindWord_hpc (s : State) (v : Nat) (w : Word) : (s.bindWord v w).hpc = s.hpc := rfl
@[simp] theorem State.bindWord_busData (s : State) (v : Nat) (w : Word) : (s.bindWord v w).busData = s.busData := rfl
@[simp] theorem State.bindWord_wordVars (s : State) (v : Nat) (w : Word) :
    (s.bindWord v w).wordVars = keyPut s.wordVars v w := rfl
@[simp] theorem State.bindWord_byteVars (s : State) (v : Nat) (w : Word) :
    (s.bindWord v w).byteVars = s.byteVars := rfl
@[simp] theorem State.bindWord_filterAddr (s : State) (v : Nat) (w : Word) :
    (s.bindWord v w).filterAddr = s.filterAddr := rfl
@[simp] theorem State.bindWord_pduResult (s : State) (v : Nat) (w : Word) :
    (s.bindWord v w).pduResult = s.pduResult := rfl
@[simp] theorem State.bindWord_result (s : State) (v : Nat) (w : Word) : (s.bindWord v w).result = s.result := rfl
@[simp] theorem State.bindWord_airIn (s : State) (v : Nat) (w : Word) : (s.bindWord v w).airIn = s.airIn := rfl
@[simp] theorem State.bindWord_airLog (s : State) (v : Nat) (w : Word) : (s.bindWord v w).airLog = s.airLog := rfl
@[simp] theorem State.bindWord_turns (s : State) (v : Nat) (w : Word) : (s.bindWord v w).turns = s.turns := rfl
@[simp] theorem State.bindWord_tick (s : State) (v : Nat) (w : Word) : (s.bindWord v w).tick = s.tick := rfl
@[simp] theorem State.bindWord_fault (s : State) (v : Nat) (w : Word) : (s.bindWord v w).fault = s.fault := rfl
@[simp] theorem State.bindWord_refused (s : State) (v : Nat) (w : Word) : (s.bindWord v w).refused = s.refused := rfl

/-! ### `State.bindBytes` -/

@[simp] theorem State.bindBytes_memMap (s : State) (v : Nat) (bytes : List Byte) :
    (s.bindBytes v bytes).memMap = s.memMap := rfl
@[simp] theorem State.bindBytes_hfState (s : State) (v : Nat) (bytes : List Byte) :
    (s.bindBytes v bytes).hfState = s.hfState := rfl
@[simp] theorem State.bindBytes_evHfclkStarted (s : State) (v : Nat) (bytes : List Byte) :
    (s.bindBytes v bytes).evHfclkStarted = s.evHfclkStarted := rfl
@[simp] theorem State.bindBytes_powered (s : State) (v : Nat) (bytes : List Byte) :
    (s.bindBytes v bytes).powered = s.powered := rfl
@[simp] theorem State.bindBytes_cfg (s : State) (v : Nat) (bytes : List Byte) :
    (s.bindBytes v bytes).cfg = s.cfg := rfl
@[simp] theorem State.bindBytes_written (s : State) (v : Nat) (bytes : List Byte) :
    (s.bindBytes v bytes).written = s.written := rfl
@[simp] theorem State.bindBytes_events (s : State) (v : Nat) (bytes : List Byte) :
    (s.bindBytes v bytes).events = s.events := rfl
@[simp] theorem State.bindBytes_intMask (s : State) (v : Nat) (bytes : List Byte) :
    (s.bindBytes v bytes).intMask = s.intMask := rfl
@[simp] theorem State.bindBytes_crcStatus (s : State) (v : Nat) (bytes : List Byte) :
    (s.bindBytes v bytes).crcStatus = s.crcStatus := rfl
@[simp] theorem State.bindBytes_rxMatch (s : State) (v : Nat) (bytes : List Byte) :
    (s.bindBytes v bytes).rxMatch = s.rxMatch := rfl
@[simp] theorem State.bindBytes_rxCrc (s : State) (v : Nat) (bytes : List Byte) :
    (s.bindBytes v bytes).rxCrc = s.rxCrc := rfl
@[simp] theorem State.bindBytes_amount (s : State) (v : Nat) (bytes : List Byte) :
    (s.bindBytes v bytes).amount = s.amount := rfl
@[simp] theorem State.bindBytes_radioState (s : State) (v : Nat) (bytes : List Byte) :
    (s.bindBytes v bytes).radioState = s.radioState := rfl
@[simp] theorem State.bindBytes_phase (s : State) (v : Nat) (bytes : List Byte) :
    (s.bindBytes v bytes).phase = s.phase := rfl
@[simp] theorem State.bindBytes_session (s : State) (v : Nat) (bytes : List Byte) :
    (s.bindBytes v bytes).session = s.session := rfl
@[simp] theorem State.bindBytes_dmaRegions (s : State) (v : Nat) (bytes : List Byte) :
    (s.bindBytes v bytes).dmaRegions = s.dmaRegions := rfl
@[simp] theorem State.bindBytes_crcReg (s : State) (v : Nat) (bytes : List Byte) :
    (s.bindBytes v bytes).crcReg = s.crcReg := rfl
@[simp] theorem State.bindBytes_whiteLfsr (s : State) (v : Nat) (bytes : List Byte) :
    (s.bindBytes v bytes).whiteLfsr = s.whiteLfsr := rfl
@[simp] theorem State.bindBytes_curLen (s : State) (v : Nat) (bytes : List Byte) :
    (s.bindBytes v bytes).curLen = s.curLen := rfl
@[simp] theorem State.bindBytes_curS0 (s : State) (v : Nat) (bytes : List Byte) :
    (s.bindBytes v bytes).curS0 = s.curS0 := rfl
@[simp] theorem State.bindBytes_rxFrame (s : State) (v : Nat) (bytes : List Byte) :
    (s.bindBytes v bytes).rxFrame = s.rxFrame := rfl
@[simp] theorem State.bindBytes_rxSeed (s : State) (v : Nat) (bytes : List Byte) :
    (s.bindBytes v bytes).rxSeed = s.rxSeed := rfl
@[simp] theorem State.bindBytes_txBits (s : State) (v : Nat) (bytes : List Byte) :
    (s.bindBytes v bytes).txBits = s.txBits := rfl
@[simp] theorem State.bindBytes_antPattern (s : State) (v : Nat) (bytes : List Byte) :
    (s.bindBytes v bytes).antPattern = s.antPattern := rfl
@[simp] theorem State.bindBytes_ram (s : State) (v : Nat) (bytes : List Byte) :
    (s.bindBytes v bytes).ram = s.ram := rfl
@[simp] theorem State.bindBytes_script (s : State) (v : Nat) (bytes : List Byte) :
    (s.bindBytes v bytes).script = s.script := rfl
@[simp] theorem State.bindBytes_hpc (s : State) (v : Nat) (bytes : List Byte) :
    (s.bindBytes v bytes).hpc = s.hpc := rfl
@[simp] theorem State.bindBytes_busData (s : State) (v : Nat) (bytes : List Byte) :
    (s.bindBytes v bytes).busData = s.busData := rfl
@[simp] theorem State.bindBytes_wordVars (s : State) (v : Nat) (bytes : List Byte) :
    (s.bindBytes v bytes).wordVars = s.wordVars := rfl
@[simp] theorem State.bindBytes_byteVars (s : State) (v : Nat) (bytes : List Byte) :
    (s.bindBytes v bytes).byteVars = keyPut s.byteVars v bytes := rfl
@[simp] theorem State.bindBytes_filterAddr (s : State) (v : Nat) (bytes : List Byte) :
    (s.bindBytes v bytes).filterAddr = s.filterAddr := rfl
@[simp] theorem State.bindBytes_pduResult (s : State) (v : Nat) (bytes : List Byte) :
    (s.bindBytes v bytes).pduResult = s.pduResult := rfl
@[simp] theorem State.bindBytes_result (s : State) (v : Nat) (bytes : List Byte) :
    (s.bindBytes v bytes).result = s.result := rfl
@[simp] theorem State.bindBytes_airIn (s : State) (v : Nat) (bytes : List Byte) :
    (s.bindBytes v bytes).airIn = s.airIn := rfl
@[simp] theorem State.bindBytes_airLog (s : State) (v : Nat) (bytes : List Byte) :
    (s.bindBytes v bytes).airLog = s.airLog := rfl
@[simp] theorem State.bindBytes_turns (s : State) (v : Nat) (bytes : List Byte) :
    (s.bindBytes v bytes).turns = s.turns := rfl
@[simp] theorem State.bindBytes_tick (s : State) (v : Nat) (bytes : List Byte) :
    (s.bindBytes v bytes).tick = s.tick := rfl
@[simp] theorem State.bindBytes_fault (s : State) (v : Nat) (bytes : List Byte) :
    (s.bindBytes v bytes).fault = s.fault := rfl
@[simp] theorem State.bindBytes_refused (s : State) (v : Nat) (bytes : List Byte) :
    (s.bindBytes v bytes).refused = s.refused := rfl

/-! ### `State.jump` -/

@[simp] theorem State.jump_memMap (s : State) (target : Nat) : (s.jump target).memMap = s.memMap := rfl
@[simp] theorem State.jump_hfState (s : State) (target : Nat) : (s.jump target).hfState = s.hfState := rfl
@[simp] theorem State.jump_evHfclkStarted (s : State) (target : Nat) :
    (s.jump target).evHfclkStarted = s.evHfclkStarted := rfl
@[simp] theorem State.jump_powered (s : State) (target : Nat) : (s.jump target).powered = s.powered := rfl
@[simp] theorem State.jump_cfg (s : State) (target : Nat) : (s.jump target).cfg = s.cfg := rfl
@[simp] theorem State.jump_written (s : State) (target : Nat) : (s.jump target).written = s.written := rfl
@[simp] theorem State.jump_events (s : State) (target : Nat) : (s.jump target).events = s.events := rfl
@[simp] theorem State.jump_intMask (s : State) (target : Nat) : (s.jump target).intMask = s.intMask := rfl
@[simp] theorem State.jump_crcStatus (s : State) (target : Nat) : (s.jump target).crcStatus = s.crcStatus := rfl
@[simp] theorem State.jump_rxMatch (s : State) (target : Nat) : (s.jump target).rxMatch = s.rxMatch := rfl
@[simp] theorem State.jump_rxCrc (s : State) (target : Nat) : (s.jump target).rxCrc = s.rxCrc := rfl
@[simp] theorem State.jump_amount (s : State) (target : Nat) : (s.jump target).amount = s.amount := rfl
@[simp] theorem State.jump_radioState (s : State) (target : Nat) : (s.jump target).radioState = s.radioState := rfl
@[simp] theorem State.jump_phase (s : State) (target : Nat) : (s.jump target).phase = s.phase := rfl
@[simp] theorem State.jump_session (s : State) (target : Nat) : (s.jump target).session = s.session := rfl
@[simp] theorem State.jump_dmaRegions (s : State) (target : Nat) : (s.jump target).dmaRegions = s.dmaRegions := rfl
@[simp] theorem State.jump_crcReg (s : State) (target : Nat) : (s.jump target).crcReg = s.crcReg := rfl
@[simp] theorem State.jump_whiteLfsr (s : State) (target : Nat) : (s.jump target).whiteLfsr = s.whiteLfsr := rfl
@[simp] theorem State.jump_curLen (s : State) (target : Nat) : (s.jump target).curLen = s.curLen := rfl
@[simp] theorem State.jump_curS0 (s : State) (target : Nat) : (s.jump target).curS0 = s.curS0 := rfl
@[simp] theorem State.jump_rxFrame (s : State) (target : Nat) : (s.jump target).rxFrame = s.rxFrame := rfl
@[simp] theorem State.jump_rxSeed (s : State) (target : Nat) : (s.jump target).rxSeed = s.rxSeed := rfl
@[simp] theorem State.jump_txBits (s : State) (target : Nat) : (s.jump target).txBits = s.txBits := rfl
@[simp] theorem State.jump_antPattern (s : State) (target : Nat) : (s.jump target).antPattern = s.antPattern := rfl
@[simp] theorem State.jump_ram (s : State) (target : Nat) : (s.jump target).ram = s.ram := rfl
@[simp] theorem State.jump_script (s : State) (target : Nat) : (s.jump target).script = s.script := rfl
@[simp] theorem State.jump_hpc (s : State) (target : Nat) : (s.jump target).hpc = target := rfl
@[simp] theorem State.jump_busData (s : State) (target : Nat) : (s.jump target).busData = s.busData := rfl
@[simp] theorem State.jump_wordVars (s : State) (target : Nat) : (s.jump target).wordVars = s.wordVars := rfl
@[simp] theorem State.jump_byteVars (s : State) (target : Nat) : (s.jump target).byteVars = s.byteVars := rfl
@[simp] theorem State.jump_filterAddr (s : State) (target : Nat) : (s.jump target).filterAddr = s.filterAddr := rfl
@[simp] theorem State.jump_pduResult (s : State) (target : Nat) : (s.jump target).pduResult = s.pduResult := rfl
@[simp] theorem State.jump_result (s : State) (target : Nat) : (s.jump target).result = s.result := rfl
@[simp] theorem State.jump_airIn (s : State) (target : Nat) : (s.jump target).airIn = s.airIn := rfl
@[simp] theorem State.jump_airLog (s : State) (target : Nat) : (s.jump target).airLog = s.airLog := rfl
@[simp] theorem State.jump_turns (s : State) (target : Nat) : (s.jump target).turns = s.turns := rfl
@[simp] theorem State.jump_tick (s : State) (target : Nat) : (s.jump target).tick = s.tick := rfl
@[simp] theorem State.jump_fault (s : State) (target : Nat) : (s.jump target).fault = s.fault := rfl
@[simp] theorem State.jump_refused (s : State) (target : Nat) : (s.jump target).refused = s.refused := rfl

/-! ### `State.advance` -/

@[simp] theorem State.advance_memMap (s : State) : (s.advance).memMap = s.memMap := rfl
@[simp] theorem State.advance_hfState (s : State) : (s.advance).hfState = s.hfState := rfl
@[simp] theorem State.advance_evHfclkStarted (s : State) : (s.advance).evHfclkStarted = s.evHfclkStarted := rfl
@[simp] theorem State.advance_powered (s : State) : (s.advance).powered = s.powered := rfl
@[simp] theorem State.advance_cfg (s : State) : (s.advance).cfg = s.cfg := rfl
@[simp] theorem State.advance_written (s : State) : (s.advance).written = s.written := rfl
@[simp] theorem State.advance_events (s : State) : (s.advance).events = s.events := rfl
@[simp] theorem State.advance_intMask (s : State) : (s.advance).intMask = s.intMask := rfl
@[simp] theorem State.advance_crcStatus (s : State) : (s.advance).crcStatus = s.crcStatus := rfl
@[simp] theorem State.advance_rxMatch (s : State) : (s.advance).rxMatch = s.rxMatch := rfl
@[simp] theorem State.advance_rxCrc (s : State) : (s.advance).rxCrc = s.rxCrc := rfl
@[simp] theorem State.advance_amount (s : State) : (s.advance).amount = s.amount := rfl
@[simp] theorem State.advance_radioState (s : State) : (s.advance).radioState = s.radioState := rfl
@[simp] theorem State.advance_phase (s : State) : (s.advance).phase = s.phase := rfl
@[simp] theorem State.advance_session (s : State) : (s.advance).session = s.session := rfl
@[simp] theorem State.advance_dmaRegions (s : State) : (s.advance).dmaRegions = s.dmaRegions := rfl
@[simp] theorem State.advance_crcReg (s : State) : (s.advance).crcReg = s.crcReg := rfl
@[simp] theorem State.advance_whiteLfsr (s : State) : (s.advance).whiteLfsr = s.whiteLfsr := rfl
@[simp] theorem State.advance_curLen (s : State) : (s.advance).curLen = s.curLen := rfl
@[simp] theorem State.advance_curS0 (s : State) : (s.advance).curS0 = s.curS0 := rfl
@[simp] theorem State.advance_rxFrame (s : State) : (s.advance).rxFrame = s.rxFrame := rfl
@[simp] theorem State.advance_rxSeed (s : State) : (s.advance).rxSeed = s.rxSeed := rfl
@[simp] theorem State.advance_txBits (s : State) : (s.advance).txBits = s.txBits := rfl
@[simp] theorem State.advance_antPattern (s : State) : (s.advance).antPattern = s.antPattern := rfl
@[simp] theorem State.advance_ram (s : State) : (s.advance).ram = s.ram := rfl
@[simp] theorem State.advance_script (s : State) : (s.advance).script = s.script := rfl
@[simp] theorem State.advance_hpc (s : State) : (s.advance).hpc = s.hpc + 1 := rfl
@[simp] theorem State.advance_busData (s : State) : (s.advance).busData = s.busData := rfl
@[simp] theorem State.advance_wordVars (s : State) : (s.advance).wordVars = s.wordVars := rfl
@[simp] theorem State.advance_byteVars (s : State) : (s.advance).byteVars = s.byteVars := rfl
@[simp] theorem State.advance_filterAddr (s : State) : (s.advance).filterAddr = s.filterAddr := rfl
@[simp] theorem State.advance_pduResult (s : State) : (s.advance).pduResult = s.pduResult := rfl
@[simp] theorem State.advance_result (s : State) : (s.advance).result = s.result := rfl
@[simp] theorem State.advance_airIn (s : State) : (s.advance).airIn = s.airIn := rfl
@[simp] theorem State.advance_airLog (s : State) : (s.advance).airLog = s.airLog := rfl
@[simp] theorem State.advance_turns (s : State) : (s.advance).turns = s.turns := rfl
@[simp] theorem State.advance_tick (s : State) : (s.advance).tick = s.tick := rfl
@[simp] theorem State.advance_fault (s : State) : (s.advance).fault = s.fault := rfl
@[simp] theorem State.advance_refused (s : State) : (s.advance).refused = s.refused := rfl

/-! ### `State.beginTurn` -/

@[simp] theorem State.beginTurn_memMap (s : State) : (s.beginTurn).memMap = s.memMap := rfl
@[simp] theorem State.beginTurn_hfState (s : State) : (s.beginTurn).hfState = s.hfState := rfl
@[simp] theorem State.beginTurn_evHfclkStarted (s : State) : (s.beginTurn).evHfclkStarted = s.evHfclkStarted := rfl
@[simp] theorem State.beginTurn_powered (s : State) : (s.beginTurn).powered = s.powered := rfl
@[simp] theorem State.beginTurn_cfg (s : State) : (s.beginTurn).cfg = s.cfg := rfl
@[simp] theorem State.beginTurn_written (s : State) : (s.beginTurn).written = s.written := rfl
@[simp] theorem State.beginTurn_events (s : State) : (s.beginTurn).events = s.events := rfl
@[simp] theorem State.beginTurn_intMask (s : State) : (s.beginTurn).intMask = s.intMask := rfl
@[simp] theorem State.beginTurn_crcStatus (s : State) : (s.beginTurn).crcStatus = s.crcStatus := rfl
@[simp] theorem State.beginTurn_rxMatch (s : State) : (s.beginTurn).rxMatch = s.rxMatch := rfl
@[simp] theorem State.beginTurn_rxCrc (s : State) : (s.beginTurn).rxCrc = s.rxCrc := rfl
@[simp] theorem State.beginTurn_amount (s : State) : (s.beginTurn).amount = s.amount := rfl
@[simp] theorem State.beginTurn_radioState (s : State) : (s.beginTurn).radioState = s.radioState := rfl
@[simp] theorem State.beginTurn_phase (s : State) : (s.beginTurn).phase = s.phase := rfl
@[simp] theorem State.beginTurn_session (s : State) : (s.beginTurn).session = s.session := rfl
@[simp] theorem State.beginTurn_dmaRegions (s : State) : (s.beginTurn).dmaRegions = s.dmaRegions := rfl
@[simp] theorem State.beginTurn_crcReg (s : State) : (s.beginTurn).crcReg = s.crcReg := rfl
@[simp] theorem State.beginTurn_whiteLfsr (s : State) : (s.beginTurn).whiteLfsr = s.whiteLfsr := rfl
@[simp] theorem State.beginTurn_curLen (s : State) : (s.beginTurn).curLen = s.curLen := rfl
@[simp] theorem State.beginTurn_curS0 (s : State) : (s.beginTurn).curS0 = s.curS0 := rfl
@[simp] theorem State.beginTurn_rxFrame (s : State) : (s.beginTurn).rxFrame = s.rxFrame := rfl
@[simp] theorem State.beginTurn_rxSeed (s : State) : (s.beginTurn).rxSeed = s.rxSeed := rfl
@[simp] theorem State.beginTurn_txBits (s : State) : (s.beginTurn).txBits = s.txBits := rfl
@[simp] theorem State.beginTurn_antPattern (s : State) : (s.beginTurn).antPattern = s.antPattern := rfl
@[simp] theorem State.beginTurn_ram (s : State) : (s.beginTurn).ram = s.ram := rfl
@[simp] theorem State.beginTurn_script (s : State) : (s.beginTurn).script = s.script := rfl
@[simp] theorem State.beginTurn_hpc (s : State) : (s.beginTurn).hpc = s.hpc := rfl
@[simp] theorem State.beginTurn_busData (s : State) : (s.beginTurn).busData = s.busData := rfl
@[simp] theorem State.beginTurn_wordVars (s : State) : (s.beginTurn).wordVars = s.wordVars := rfl
@[simp] theorem State.beginTurn_byteVars (s : State) : (s.beginTurn).byteVars = s.byteVars := rfl
@[simp] theorem State.beginTurn_filterAddr (s : State) : (s.beginTurn).filterAddr = s.filterAddr := rfl
@[simp] theorem State.beginTurn_pduResult (s : State) : (s.beginTurn).pduResult = s.pduResult := rfl
@[simp] theorem State.beginTurn_result (s : State) : (s.beginTurn).result = s.result := rfl
@[simp] theorem State.beginTurn_airIn (s : State) : (s.beginTurn).airIn = s.airIn := rfl
@[simp] theorem State.beginTurn_airLog (s : State) : (s.beginTurn).airLog = s.airLog := rfl
@[simp] theorem State.beginTurn_turns (s : State) : (s.beginTurn).turns = s.turns.tail := rfl
@[simp] theorem State.beginTurn_tick (s : State) : (s.beginTurn).tick = s.tick + 1 := rfl
@[simp] theorem State.beginTurn_fault (s : State) : (s.beginTurn).fault = s.fault := rfl
@[simp] theorem State.beginTurn_refused (s : State) : (s.beginTurn).refused = s.refused := rfl

/-! ### `State.beginSession` -/

@[simp] theorem State.beginSession_memMap (s : State) (kind : Session) :
    (s.beginSession kind).memMap = s.memMap := rfl
@[simp] theorem State.beginSession_hfState (s : State) (kind : Session) :
    (s.beginSession kind).hfState = s.hfState := rfl
@[simp] theorem State.beginSession_evHfclkStarted (s : State) (kind : Session) :
    (s.beginSession kind).evHfclkStarted = s.evHfclkStarted := rfl
@[simp] theorem State.beginSession_powered (s : State) (kind : Session) :
    (s.beginSession kind).powered = s.powered := rfl
@[simp] theorem State.beginSession_cfg (s : State) (kind : Session) : (s.beginSession kind).cfg = s.cfg := rfl
@[simp] theorem State.beginSession_written (s : State) (kind : Session) :
    (s.beginSession kind).written = s.written := rfl
@[simp] theorem State.beginSession_events (s : State) (kind : Session) :
    (s.beginSession kind).events = s.events := rfl
@[simp] theorem State.beginSession_intMask (s : State) (kind : Session) :
    (s.beginSession kind).intMask = s.intMask := rfl
@[simp] theorem State.beginSession_crcStatus (s : State) (kind : Session) :
    (s.beginSession kind).crcStatus = s.crcStatus := rfl
@[simp] theorem State.beginSession_rxMatch (s : State) (kind : Session) :
    (s.beginSession kind).rxMatch = s.rxMatch := rfl
@[simp] theorem State.beginSession_rxCrc (s : State) (kind : Session) : (s.beginSession kind).rxCrc = s.rxCrc := rfl
@[simp] theorem State.beginSession_amount (s : State) (kind : Session) :
    (s.beginSession kind).amount = s.amount := rfl
@[simp] theorem State.beginSession_radioState (s : State) (kind : Session) :
    (s.beginSession kind).radioState = if kind = .tx then .txru else .rxru := rfl
@[simp] theorem State.beginSession_phase (s : State) (kind : Session) : (s.beginSession kind).phase = s.phase := rfl
@[simp] theorem State.beginSession_session (s : State) (kind : Session) : (s.beginSession kind).session = kind := rfl
@[simp] theorem State.beginSession_dmaRegions (s : State) (kind : Session) :
    (s.beginSession kind).dmaRegions = s.sessionRegions kind := rfl
@[simp] theorem State.beginSession_crcReg (s : State) (kind : Session) :
    (s.beginSession kind).crcReg = s.crcReg := rfl
@[simp] theorem State.beginSession_whiteLfsr (s : State) (kind : Session) :
    (s.beginSession kind).whiteLfsr = s.whiteLfsr := rfl
@[simp] theorem State.beginSession_curLen (s : State) (kind : Session) :
    (s.beginSession kind).curLen = s.curLen := rfl
@[simp] theorem State.beginSession_curS0 (s : State) (kind : Session) : (s.beginSession kind).curS0 = s.curS0 := rfl
@[simp] theorem State.beginSession_rxFrame (s : State) (kind : Session) :
    (s.beginSession kind).rxFrame = s.rxFrame := rfl
@[simp] theorem State.beginSession_rxSeed (s : State) (kind : Session) :
    (s.beginSession kind).rxSeed = s.rxSeed := rfl
@[simp] theorem State.beginSession_txBits (s : State) (kind : Session) :
    (s.beginSession kind).txBits = s.txBits := rfl
@[simp] theorem State.beginSession_antPattern (s : State) (kind : Session) :
    (s.beginSession kind).antPattern = s.antPattern := rfl
@[simp] theorem State.beginSession_ram (s : State) (kind : Session) : (s.beginSession kind).ram = s.ram := rfl
@[simp] theorem State.beginSession_script (s : State) (kind : Session) :
    (s.beginSession kind).script = s.script := rfl
@[simp] theorem State.beginSession_hpc (s : State) (kind : Session) : (s.beginSession kind).hpc = s.hpc := rfl
@[simp] theorem State.beginSession_busData (s : State) (kind : Session) :
    (s.beginSession kind).busData = s.busData := rfl
@[simp] theorem State.beginSession_wordVars (s : State) (kind : Session) :
    (s.beginSession kind).wordVars = s.wordVars := rfl
@[simp] theorem State.beginSession_byteVars (s : State) (kind : Session) :
    (s.beginSession kind).byteVars = s.byteVars := rfl
@[simp] theorem State.beginSession_filterAddr (s : State) (kind : Session) :
    (s.beginSession kind).filterAddr = s.filterAddr := rfl
@[simp] theorem State.beginSession_pduResult (s : State) (kind : Session) :
    (s.beginSession kind).pduResult = s.pduResult := rfl
@[simp] theorem State.beginSession_result (s : State) (kind : Session) :
    (s.beginSession kind).result = s.result := rfl
@[simp] theorem State.beginSession_airIn (s : State) (kind : Session) : (s.beginSession kind).airIn = s.airIn := rfl
@[simp] theorem State.beginSession_airLog (s : State) (kind : Session) :
    (s.beginSession kind).airLog = s.airLog := rfl
@[simp] theorem State.beginSession_turns (s : State) (kind : Session) : (s.beginSession kind).turns = s.turns := rfl
@[simp] theorem State.beginSession_tick (s : State) (kind : Session) : (s.beginSession kind).tick = s.tick := rfl
@[simp] theorem State.beginSession_fault (s : State) (kind : Session) : (s.beginSession kind).fault = s.fault := rfl
@[simp] theorem State.beginSession_refused (s : State) (kind : Session) :
    (s.beginSession kind).refused = s.refused := rfl

/-! ### `State.powerDown` -/

@[simp] theorem State.powerDown_memMap (s : State) : (s.powerDown).memMap = s.memMap := rfl
@[simp] theorem State.powerDown_hfState (s : State) : (s.powerDown).hfState = s.hfState := rfl
@[simp] theorem State.powerDown_evHfclkStarted (s : State) : (s.powerDown).evHfclkStarted = s.evHfclkStarted := rfl
@[simp] theorem State.powerDown_powered (s : State) : (s.powerDown).powered = false := rfl
@[simp] theorem State.powerDown_cfg (s : State) : (s.powerDown).cfg = RegFile.atReset := rfl
@[simp] theorem State.powerDown_written (s : State) : (s.powerDown).written = RegFile.all false := rfl
@[simp] theorem State.powerDown_events (s : State) : (s.powerDown).events = EventFile.clear := rfl
@[simp] theorem State.powerDown_intMask (s : State) : (s.powerDown).intMask = 0#32 := rfl
@[simp] theorem State.powerDown_crcStatus (s : State) : (s.powerDown).crcStatus = false := rfl
@[simp] theorem State.powerDown_rxMatch (s : State) : (s.powerDown).rxMatch = 0#3 := rfl
@[simp] theorem State.powerDown_rxCrc (s : State) : (s.powerDown).rxCrc = 0#24 := rfl
@[simp] theorem State.powerDown_amount (s : State) : (s.powerDown).amount = 0#16 := rfl
@[simp] theorem State.powerDown_radioState (s : State) : (s.powerDown).radioState = RadioState.disabled := rfl
@[simp] theorem State.powerDown_phase (s : State) : (s.powerDown).phase = s.phase := rfl
@[simp] theorem State.powerDown_session (s : State) : (s.powerDown).session = s.session := rfl
@[simp] theorem State.powerDown_dmaRegions (s : State) : (s.powerDown).dmaRegions = s.dmaRegions := rfl
@[simp] theorem State.powerDown_crcReg (s : State) : (s.powerDown).crcReg = s.crcReg := rfl
@[simp] theorem State.powerDown_whiteLfsr (s : State) : (s.powerDown).whiteLfsr = s.whiteLfsr := rfl
@[simp] theorem State.powerDown_curLen (s : State) : (s.powerDown).curLen = s.curLen := rfl
@[simp] theorem State.powerDown_curS0 (s : State) : (s.powerDown).curS0 = s.curS0 := rfl
@[simp] theorem State.powerDown_rxFrame (s : State) : (s.powerDown).rxFrame = s.rxFrame := rfl
@[simp] theorem State.powerDown_rxSeed (s : State) : (s.powerDown).rxSeed = s.rxSeed := rfl
@[simp] theorem State.powerDown_txBits (s : State) : (s.powerDown).txBits = [] := rfl
@[simp] theorem State.powerDown_antPattern (s : State) : (s.powerDown).antPattern = [] := rfl
@[simp] theorem State.powerDown_ram (s : State) : (s.powerDown).ram = s.ram := rfl
@[simp] theorem State.powerDown_script (s : State) : (s.powerDown).script = s.script := rfl
@[simp] theorem State.powerDown_hpc (s : State) : (s.powerDown).hpc = s.hpc := rfl
@[simp] theorem State.powerDown_busData (s : State) : (s.powerDown).busData = s.busData := rfl
@[simp] theorem State.powerDown_wordVars (s : State) : (s.powerDown).wordVars = s.wordVars := rfl
@[simp] theorem State.powerDown_byteVars (s : State) : (s.powerDown).byteVars = s.byteVars := rfl
@[simp] theorem State.powerDown_filterAddr (s : State) : (s.powerDown).filterAddr = s.filterAddr := rfl
@[simp] theorem State.powerDown_pduResult (s : State) : (s.powerDown).pduResult = s.pduResult := rfl
@[simp] theorem State.powerDown_result (s : State) : (s.powerDown).result = s.result := rfl
@[simp] theorem State.powerDown_airIn (s : State) : (s.powerDown).airIn = s.airIn := rfl
@[simp] theorem State.powerDown_airLog (s : State) : (s.powerDown).airLog = s.airLog := rfl
@[simp] theorem State.powerDown_turns (s : State) : (s.powerDown).turns = s.turns := rfl
@[simp] theorem State.powerDown_tick (s : State) : (s.powerDown).tick = s.tick := rfl
@[simp] theorem State.powerDown_fault (s : State) : (s.powerDown).fault = s.fault := rfl
@[simp] theorem State.powerDown_refused (s : State) : (s.powerDown).refused = s.refused := rfl

/-! ### `State.appendPattern` -/

@[simp] theorem State.appendPattern_memMap (s : State) (d : Word) : (s.appendPattern d).memMap = s.memMap := rfl
@[simp] theorem State.appendPattern_hfState (s : State) (d : Word) : (s.appendPattern d).hfState = s.hfState := rfl
@[simp] theorem State.appendPattern_evHfclkStarted (s : State) (d : Word) :
    (s.appendPattern d).evHfclkStarted = s.evHfclkStarted := rfl
@[simp] theorem State.appendPattern_powered (s : State) (d : Word) : (s.appendPattern d).powered = s.powered := rfl
@[simp] theorem State.appendPattern_cfg (s : State) (d : Word) : (s.appendPattern d).cfg = s.cfg := rfl
@[simp] theorem State.appendPattern_written (s : State) (d : Word) : (s.appendPattern d).written = s.written := rfl
@[simp] theorem State.appendPattern_events (s : State) (d : Word) : (s.appendPattern d).events = s.events := rfl
@[simp] theorem State.appendPattern_intMask (s : State) (d : Word) : (s.appendPattern d).intMask = s.intMask := rfl
@[simp] theorem State.appendPattern_crcStatus (s : State) (d : Word) :
    (s.appendPattern d).crcStatus = s.crcStatus := rfl
@[simp] theorem State.appendPattern_rxMatch (s : State) (d : Word) : (s.appendPattern d).rxMatch = s.rxMatch := rfl
@[simp] theorem State.appendPattern_rxCrc (s : State) (d : Word) : (s.appendPattern d).rxCrc = s.rxCrc := rfl
@[simp] theorem State.appendPattern_amount (s : State) (d : Word) : (s.appendPattern d).amount = s.amount := rfl
@[simp] theorem State.appendPattern_radioState (s : State) (d : Word) :
    (s.appendPattern d).radioState = s.radioState := rfl
@[simp] theorem State.appendPattern_phase (s : State) (d : Word) : (s.appendPattern d).phase = s.phase := rfl
@[simp] theorem State.appendPattern_session (s : State) (d : Word) : (s.appendPattern d).session = s.session := rfl
@[simp] theorem State.appendPattern_dmaRegions (s : State) (d : Word) :
    (s.appendPattern d).dmaRegions = s.dmaRegions := rfl
@[simp] theorem State.appendPattern_crcReg (s : State) (d : Word) : (s.appendPattern d).crcReg = s.crcReg := rfl
@[simp] theorem State.appendPattern_whiteLfsr (s : State) (d : Word) :
    (s.appendPattern d).whiteLfsr = s.whiteLfsr := rfl
@[simp] theorem State.appendPattern_curLen (s : State) (d : Word) : (s.appendPattern d).curLen = s.curLen := rfl
@[simp] theorem State.appendPattern_curS0 (s : State) (d : Word) : (s.appendPattern d).curS0 = s.curS0 := rfl
@[simp] theorem State.appendPattern_rxFrame (s : State) (d : Word) : (s.appendPattern d).rxFrame = s.rxFrame := rfl
@[simp] theorem State.appendPattern_rxSeed (s : State) (d : Word) : (s.appendPattern d).rxSeed = s.rxSeed := rfl
@[simp] theorem State.appendPattern_txBits (s : State) (d : Word) : (s.appendPattern d).txBits = s.txBits := rfl
@[simp] theorem State.appendPattern_antPattern (s : State) (d : Word) :
    (s.appendPattern d).antPattern = s.antPattern ++ [d.extractLsb' 0 8] := rfl
@[simp] theorem State.appendPattern_ram (s : State) (d : Word) : (s.appendPattern d).ram = s.ram := rfl
@[simp] theorem State.appendPattern_script (s : State) (d : Word) : (s.appendPattern d).script = s.script := rfl
@[simp] theorem State.appendPattern_hpc (s : State) (d : Word) : (s.appendPattern d).hpc = s.hpc := rfl
@[simp] theorem State.appendPattern_busData (s : State) (d : Word) : (s.appendPattern d).busData = s.busData := rfl
@[simp] theorem State.appendPattern_wordVars (s : State) (d : Word) : (s.appendPattern d).wordVars = s.wordVars := rfl
@[simp] theorem State.appendPattern_byteVars (s : State) (d : Word) : (s.appendPattern d).byteVars = s.byteVars := rfl
@[simp] theorem State.appendPattern_filterAddr (s : State) (d : Word) :
    (s.appendPattern d).filterAddr = s.filterAddr := rfl
@[simp] theorem State.appendPattern_pduResult (s : State) (d : Word) :
    (s.appendPattern d).pduResult = s.pduResult := rfl
@[simp] theorem State.appendPattern_result (s : State) (d : Word) : (s.appendPattern d).result = s.result := rfl
@[simp] theorem State.appendPattern_airIn (s : State) (d : Word) : (s.appendPattern d).airIn = s.airIn := rfl
@[simp] theorem State.appendPattern_airLog (s : State) (d : Word) : (s.appendPattern d).airLog = s.airLog := rfl
@[simp] theorem State.appendPattern_turns (s : State) (d : Word) : (s.appendPattern d).turns = s.turns := rfl
@[simp] theorem State.appendPattern_tick (s : State) (d : Word) : (s.appendPattern d).tick = s.tick := rfl
@[simp] theorem State.appendPattern_fault (s : State) (d : Word) : (s.appendPattern d).fault = s.fault := rfl
@[simp] theorem State.appendPattern_refused (s : State) (d : Word) : (s.appendPattern d).refused = s.refused := rfl

/-! ### `State.clearPattern` -/

@[simp] theorem State.clearPattern_memMap (s : State) : (s.clearPattern).memMap = s.memMap := rfl
@[simp] theorem State.clearPattern_hfState (s : State) : (s.clearPattern).hfState = s.hfState := rfl
@[simp] theorem State.clearPattern_evHfclkStarted (s : State) :
    (s.clearPattern).evHfclkStarted = s.evHfclkStarted := rfl
@[simp] theorem State.clearPattern_powered (s : State) : (s.clearPattern).powered = s.powered := rfl
@[simp] theorem State.clearPattern_cfg (s : State) : (s.clearPattern).cfg = s.cfg := rfl
@[simp] theorem State.clearPattern_written (s : State) : (s.clearPattern).written = s.written := rfl
@[simp] theorem State.clearPattern_events (s : State) : (s.clearPattern).events = s.events := rfl
@[simp] theorem State.clearPattern_intMask (s : State) : (s.clearPattern).intMask = s.intMask := rfl
@[simp] theorem State.clearPattern_crcStatus (s : State) : (s.clearPattern).crcStatus = s.crcStatus := rfl
@[simp] theorem State.clearPattern_rxMatch (s : State) : (s.clearPattern).rxMatch = s.rxMatch := rfl
@[simp] theorem State.clearPattern_rxCrc (s : State) : (s.clearPattern).rxCrc = s.rxCrc := rfl
@[simp] theorem State.clearPattern_amount (s : State) : (s.clearPattern).amount = s.amount := rfl
@[simp] theorem State.clearPattern_radioState (s : State) : (s.clearPattern).radioState = s.radioState := rfl
@[simp] theorem State.clearPattern_phase (s : State) : (s.clearPattern).phase = s.phase := rfl
@[simp] theorem State.clearPattern_session (s : State) : (s.clearPattern).session = s.session := rfl
@[simp] theorem State.clearPattern_dmaRegions (s : State) : (s.clearPattern).dmaRegions = s.dmaRegions := rfl
@[simp] theorem State.clearPattern_crcReg (s : State) : (s.clearPattern).crcReg = s.crcReg := rfl
@[simp] theorem State.clearPattern_whiteLfsr (s : State) : (s.clearPattern).whiteLfsr = s.whiteLfsr := rfl
@[simp] theorem State.clearPattern_curLen (s : State) : (s.clearPattern).curLen = s.curLen := rfl
@[simp] theorem State.clearPattern_curS0 (s : State) : (s.clearPattern).curS0 = s.curS0 := rfl
@[simp] theorem State.clearPattern_rxFrame (s : State) : (s.clearPattern).rxFrame = s.rxFrame := rfl
@[simp] theorem State.clearPattern_rxSeed (s : State) : (s.clearPattern).rxSeed = s.rxSeed := rfl
@[simp] theorem State.clearPattern_txBits (s : State) : (s.clearPattern).txBits = s.txBits := rfl
@[simp] theorem State.clearPattern_antPattern (s : State) : (s.clearPattern).antPattern = [] := rfl
@[simp] theorem State.clearPattern_ram (s : State) : (s.clearPattern).ram = s.ram := rfl
@[simp] theorem State.clearPattern_script (s : State) : (s.clearPattern).script = s.script := rfl
@[simp] theorem State.clearPattern_hpc (s : State) : (s.clearPattern).hpc = s.hpc := rfl
@[simp] theorem State.clearPattern_busData (s : State) : (s.clearPattern).busData = s.busData := rfl
@[simp] theorem State.clearPattern_wordVars (s : State) : (s.clearPattern).wordVars = s.wordVars := rfl
@[simp] theorem State.clearPattern_byteVars (s : State) : (s.clearPattern).byteVars = s.byteVars := rfl
@[simp] theorem State.clearPattern_filterAddr (s : State) : (s.clearPattern).filterAddr = s.filterAddr := rfl
@[simp] theorem State.clearPattern_pduResult (s : State) : (s.clearPattern).pduResult = s.pduResult := rfl
@[simp] theorem State.clearPattern_result (s : State) : (s.clearPattern).result = s.result := rfl
@[simp] theorem State.clearPattern_airIn (s : State) : (s.clearPattern).airIn = s.airIn := rfl
@[simp] theorem State.clearPattern_airLog (s : State) : (s.clearPattern).airLog = s.airLog := rfl
@[simp] theorem State.clearPattern_turns (s : State) : (s.clearPattern).turns = s.turns := rfl
@[simp] theorem State.clearPattern_tick (s : State) : (s.clearPattern).tick = s.tick := rfl
@[simp] theorem State.clearPattern_fault (s : State) : (s.clearPattern).fault = s.fault := rfl
@[simp] theorem State.clearPattern_refused (s : State) : (s.clearPattern).refused = s.refused := rfl

/-! ### `State.startHfclk` -/

@[simp] theorem State.startHfclk_memMap (s : State) : (s.startHfclk).memMap = s.memMap := by
  unfold State.startHfclk; split <;> rfl
@[simp] theorem State.startHfclk_powered (s : State) : (s.startHfclk).powered = s.powered := by
  unfold State.startHfclk; split <;> rfl
@[simp] theorem State.startHfclk_cfg (s : State) : (s.startHfclk).cfg = s.cfg := by
  unfold State.startHfclk; split <;> rfl
@[simp] theorem State.startHfclk_written (s : State) : (s.startHfclk).written = s.written := by
  unfold State.startHfclk; split <;> rfl
@[simp] theorem State.startHfclk_events (s : State) : (s.startHfclk).events = s.events := by
  unfold State.startHfclk; split <;> rfl
@[simp] theorem State.startHfclk_intMask (s : State) : (s.startHfclk).intMask = s.intMask := by
  unfold State.startHfclk; split <;> rfl
@[simp] theorem State.startHfclk_crcStatus (s : State) : (s.startHfclk).crcStatus = s.crcStatus := by
  unfold State.startHfclk; split <;> rfl
@[simp] theorem State.startHfclk_rxMatch (s : State) : (s.startHfclk).rxMatch = s.rxMatch := by
  unfold State.startHfclk; split <;> rfl
@[simp] theorem State.startHfclk_rxCrc (s : State) : (s.startHfclk).rxCrc = s.rxCrc := by
  unfold State.startHfclk; split <;> rfl
@[simp] theorem State.startHfclk_amount (s : State) : (s.startHfclk).amount = s.amount := by
  unfold State.startHfclk; split <;> rfl
@[simp] theorem State.startHfclk_radioState (s : State) : (s.startHfclk).radioState = s.radioState := by
  unfold State.startHfclk; split <;> rfl
@[simp] theorem State.startHfclk_phase (s : State) : (s.startHfclk).phase = s.phase := by
  unfold State.startHfclk; split <;> rfl
@[simp] theorem State.startHfclk_session (s : State) : (s.startHfclk).session = s.session := by
  unfold State.startHfclk; split <;> rfl
@[simp] theorem State.startHfclk_dmaRegions (s : State) : (s.startHfclk).dmaRegions = s.dmaRegions := by
  unfold State.startHfclk; split <;> rfl
@[simp] theorem State.startHfclk_crcReg (s : State) : (s.startHfclk).crcReg = s.crcReg := by
  unfold State.startHfclk; split <;> rfl
@[simp] theorem State.startHfclk_whiteLfsr (s : State) : (s.startHfclk).whiteLfsr = s.whiteLfsr := by
  unfold State.startHfclk; split <;> rfl
@[simp] theorem State.startHfclk_curLen (s : State) : (s.startHfclk).curLen = s.curLen := by
  unfold State.startHfclk; split <;> rfl
@[simp] theorem State.startHfclk_curS0 (s : State) : (s.startHfclk).curS0 = s.curS0 := by
  unfold State.startHfclk; split <;> rfl
@[simp] theorem State.startHfclk_rxFrame (s : State) : (s.startHfclk).rxFrame = s.rxFrame := by
  unfold State.startHfclk; split <;> rfl
@[simp] theorem State.startHfclk_rxSeed (s : State) : (s.startHfclk).rxSeed = s.rxSeed := by
  unfold State.startHfclk; split <;> rfl
@[simp] theorem State.startHfclk_txBits (s : State) : (s.startHfclk).txBits = s.txBits := by
  unfold State.startHfclk; split <;> rfl
@[simp] theorem State.startHfclk_antPattern (s : State) : (s.startHfclk).antPattern = s.antPattern := by
  unfold State.startHfclk; split <;> rfl
@[simp] theorem State.startHfclk_ram (s : State) : (s.startHfclk).ram = s.ram := by
  unfold State.startHfclk; split <;> rfl
@[simp] theorem State.startHfclk_script (s : State) : (s.startHfclk).script = s.script := by
  unfold State.startHfclk; split <;> rfl
@[simp] theorem State.startHfclk_hpc (s : State) : (s.startHfclk).hpc = s.hpc := by
  unfold State.startHfclk; split <;> rfl
@[simp] theorem State.startHfclk_busData (s : State) : (s.startHfclk).busData = s.busData := by
  unfold State.startHfclk; split <;> rfl
@[simp] theorem State.startHfclk_wordVars (s : State) : (s.startHfclk).wordVars = s.wordVars := by
  unfold State.startHfclk; split <;> rfl
@[simp] theorem State.startHfclk_byteVars (s : State) : (s.startHfclk).byteVars = s.byteVars := by
  unfold State.startHfclk; split <;> rfl
@[simp] theorem State.startHfclk_filterAddr (s : State) : (s.startHfclk).filterAddr = s.filterAddr := by
  unfold State.startHfclk; split <;> rfl
@[simp] theorem State.startHfclk_pduResult (s : State) : (s.startHfclk).pduResult = s.pduResult := by
  unfold State.startHfclk; split <;> rfl
@[simp] theorem State.startHfclk_result (s : State) : (s.startHfclk).result = s.result := by
  unfold State.startHfclk; split <;> rfl
@[simp] theorem State.startHfclk_airIn (s : State) : (s.startHfclk).airIn = s.airIn := by
  unfold State.startHfclk; split <;> rfl
@[simp] theorem State.startHfclk_airLog (s : State) : (s.startHfclk).airLog = s.airLog := by
  unfold State.startHfclk; split <;> rfl
@[simp] theorem State.startHfclk_turns (s : State) : (s.startHfclk).turns = s.turns := by
  unfold State.startHfclk; split <;> rfl
@[simp] theorem State.startHfclk_tick (s : State) : (s.startHfclk).tick = s.tick := by
  unfold State.startHfclk; split <;> rfl
@[simp] theorem State.startHfclk_fault (s : State) : (s.startHfclk).fault = s.fault := by
  unfold State.startHfclk; split <;> rfl
@[simp] theorem State.startHfclk_refused (s : State) : (s.startHfclk).refused = s.refused := by
  unfold State.startHfclk; split <;> rfl

/-! ### `State.startTask` -/

@[simp] theorem State.startTask_memMap (s : State) : (s.startTask).memMap = s.memMap := by
  unfold State.startTask; split <;> rfl
@[simp] theorem State.startTask_hfState (s : State) : (s.startTask).hfState = s.hfState := by
  unfold State.startTask; split <;> rfl
@[simp] theorem State.startTask_evHfclkStarted (s : State) : (s.startTask).evHfclkStarted = s.evHfclkStarted := by
  unfold State.startTask; split <;> rfl
@[simp] theorem State.startTask_powered (s : State) : (s.startTask).powered = s.powered := by
  unfold State.startTask; split <;> rfl
@[simp] theorem State.startTask_cfg (s : State) : (s.startTask).cfg = s.cfg := by
  unfold State.startTask; split <;> rfl
@[simp] theorem State.startTask_written (s : State) : (s.startTask).written = s.written := by
  unfold State.startTask; split <;> rfl
@[simp] theorem State.startTask_events (s : State) : (s.startTask).events = s.events := by
  unfold State.startTask; split <;> rfl
@[simp] theorem State.startTask_intMask (s : State) : (s.startTask).intMask = s.intMask := by
  unfold State.startTask; split <;> rfl
@[simp] theorem State.startTask_crcStatus (s : State) : (s.startTask).crcStatus = s.crcStatus := by
  unfold State.startTask; split <;> rfl
@[simp] theorem State.startTask_rxMatch (s : State) : (s.startTask).rxMatch = s.rxMatch := by
  unfold State.startTask; split <;> rfl
@[simp] theorem State.startTask_rxCrc (s : State) : (s.startTask).rxCrc = s.rxCrc := by
  unfold State.startTask; split <;> rfl
@[simp] theorem State.startTask_amount (s : State) : (s.startTask).amount = s.amount := by
  unfold State.startTask; split <;> rfl
@[simp] theorem State.startTask_session (s : State) : (s.startTask).session = s.session := by
  unfold State.startTask; split <;> rfl
@[simp] theorem State.startTask_dmaRegions (s : State) : (s.startTask).dmaRegions = s.dmaRegions := by
  unfold State.startTask; split <;> rfl
@[simp] theorem State.startTask_crcReg (s : State) : (s.startTask).crcReg = s.crcReg := by
  unfold State.startTask; split <;> rfl
@[simp] theorem State.startTask_whiteLfsr (s : State) : (s.startTask).whiteLfsr = s.whiteLfsr := by
  unfold State.startTask; split <;> rfl
@[simp] theorem State.startTask_curLen (s : State) : (s.startTask).curLen = s.curLen := by
  unfold State.startTask; split <;> rfl
@[simp] theorem State.startTask_curS0 (s : State) : (s.startTask).curS0 = s.curS0 := by
  unfold State.startTask; split <;> rfl
@[simp] theorem State.startTask_rxFrame (s : State) : (s.startTask).rxFrame = s.rxFrame := by
  unfold State.startTask; split <;> rfl
@[simp] theorem State.startTask_rxSeed (s : State) : (s.startTask).rxSeed = s.rxSeed := by
  unfold State.startTask; split <;> rfl
@[simp] theorem State.startTask_txBits (s : State) : (s.startTask).txBits = s.txBits := by
  unfold State.startTask; split <;> rfl
@[simp] theorem State.startTask_antPattern (s : State) : (s.startTask).antPattern = s.antPattern := by
  unfold State.startTask; split <;> rfl
@[simp] theorem State.startTask_ram (s : State) : (s.startTask).ram = s.ram := by
  unfold State.startTask; split <;> rfl
@[simp] theorem State.startTask_script (s : State) : (s.startTask).script = s.script := by
  unfold State.startTask; split <;> rfl
@[simp] theorem State.startTask_hpc (s : State) : (s.startTask).hpc = s.hpc := by
  unfold State.startTask; split <;> rfl
@[simp] theorem State.startTask_busData (s : State) : (s.startTask).busData = s.busData := by
  unfold State.startTask; split <;> rfl
@[simp] theorem State.startTask_wordVars (s : State) : (s.startTask).wordVars = s.wordVars := by
  unfold State.startTask; split <;> rfl
@[simp] theorem State.startTask_byteVars (s : State) : (s.startTask).byteVars = s.byteVars := by
  unfold State.startTask; split <;> rfl
@[simp] theorem State.startTask_filterAddr (s : State) : (s.startTask).filterAddr = s.filterAddr := by
  unfold State.startTask; split <;> rfl
@[simp] theorem State.startTask_pduResult (s : State) : (s.startTask).pduResult = s.pduResult := by
  unfold State.startTask; split <;> rfl
@[simp] theorem State.startTask_result (s : State) : (s.startTask).result = s.result := by
  unfold State.startTask; split <;> rfl
@[simp] theorem State.startTask_airIn (s : State) : (s.startTask).airIn = s.airIn := by
  unfold State.startTask; split <;> rfl
@[simp] theorem State.startTask_airLog (s : State) : (s.startTask).airLog = s.airLog := by
  unfold State.startTask; split <;> rfl
@[simp] theorem State.startTask_turns (s : State) : (s.startTask).turns = s.turns := by
  unfold State.startTask; split <;> rfl
@[simp] theorem State.startTask_tick (s : State) : (s.startTask).tick = s.tick := by
  unfold State.startTask; split <;> rfl
@[simp] theorem State.startTask_fault (s : State) : (s.startTask).fault = s.fault := by
  unfold State.startTask; split <;> rfl
@[simp] theorem State.startTask_refused (s : State) : (s.startTask).refused = s.refused := by
  unfold State.startTask; split <;> rfl

/-! ### `State.disableTask` -/

@[simp] theorem State.disableTask_memMap (s : State) : (s.disableTask).memMap = s.memMap := by
  unfold State.disableTask; split <;> rfl
@[simp] theorem State.disableTask_hfState (s : State) : (s.disableTask).hfState = s.hfState := by
  unfold State.disableTask; split <;> rfl
@[simp] theorem State.disableTask_evHfclkStarted (s : State) : (s.disableTask).evHfclkStarted = s.evHfclkStarted := by
  unfold State.disableTask; split <;> rfl
@[simp] theorem State.disableTask_powered (s : State) : (s.disableTask).powered = s.powered := by
  unfold State.disableTask; split <;> rfl
@[simp] theorem State.disableTask_cfg (s : State) : (s.disableTask).cfg = s.cfg := by
  unfold State.disableTask; split <;> rfl
@[simp] theorem State.disableTask_written (s : State) : (s.disableTask).written = s.written := by
  unfold State.disableTask; split <;> rfl
@[simp] theorem State.disableTask_events (s : State) : (s.disableTask).events = s.events := by
  unfold State.disableTask; split <;> rfl
@[simp] theorem State.disableTask_intMask (s : State) : (s.disableTask).intMask = s.intMask := by
  unfold State.disableTask; split <;> rfl
@[simp] theorem State.disableTask_crcStatus (s : State) : (s.disableTask).crcStatus = s.crcStatus := by
  unfold State.disableTask; split <;> rfl
@[simp] theorem State.disableTask_rxMatch (s : State) : (s.disableTask).rxMatch = s.rxMatch := by
  unfold State.disableTask; split <;> rfl
@[simp] theorem State.disableTask_rxCrc (s : State) : (s.disableTask).rxCrc = s.rxCrc := by
  unfold State.disableTask; split <;> rfl
@[simp] theorem State.disableTask_amount (s : State) : (s.disableTask).amount = s.amount := by
  unfold State.disableTask; split <;> rfl
@[simp] theorem State.disableTask_phase (s : State) : (s.disableTask).phase = s.phase := by
  unfold State.disableTask; split <;> rfl
@[simp] theorem State.disableTask_session (s : State) : (s.disableTask).session = s.session := by
  unfold State.disableTask; split <;> rfl
@[simp] theorem State.disableTask_dmaRegions (s : State) : (s.disableTask).dmaRegions = s.dmaRegions := by
  unfold State.disableTask; split <;> rfl
@[simp] theorem State.disableTask_crcReg (s : State) : (s.disableTask).crcReg = s.crcReg := by
  unfold State.disableTask; split <;> rfl
@[simp] theorem State.disableTask_whiteLfsr (s : State) : (s.disableTask).whiteLfsr = s.whiteLfsr := by
  unfold State.disableTask; split <;> rfl
@[simp] theorem State.disableTask_curLen (s : State) : (s.disableTask).curLen = s.curLen := by
  unfold State.disableTask; split <;> rfl
@[simp] theorem State.disableTask_curS0 (s : State) : (s.disableTask).curS0 = s.curS0 := by
  unfold State.disableTask; split <;> rfl
@[simp] theorem State.disableTask_rxFrame (s : State) : (s.disableTask).rxFrame = s.rxFrame := by
  unfold State.disableTask; split <;> rfl
@[simp] theorem State.disableTask_rxSeed (s : State) : (s.disableTask).rxSeed = s.rxSeed := by
  unfold State.disableTask; split <;> rfl
@[simp] theorem State.disableTask_txBits (s : State) : (s.disableTask).txBits = s.txBits := by
  unfold State.disableTask; split <;> rfl
@[simp] theorem State.disableTask_antPattern (s : State) : (s.disableTask).antPattern = s.antPattern := by
  unfold State.disableTask; split <;> rfl
@[simp] theorem State.disableTask_ram (s : State) : (s.disableTask).ram = s.ram := by
  unfold State.disableTask; split <;> rfl
@[simp] theorem State.disableTask_script (s : State) : (s.disableTask).script = s.script := by
  unfold State.disableTask; split <;> rfl
@[simp] theorem State.disableTask_hpc (s : State) : (s.disableTask).hpc = s.hpc := by
  unfold State.disableTask; split <;> rfl
@[simp] theorem State.disableTask_busData (s : State) : (s.disableTask).busData = s.busData := by
  unfold State.disableTask; split <;> rfl
@[simp] theorem State.disableTask_wordVars (s : State) : (s.disableTask).wordVars = s.wordVars := by
  unfold State.disableTask; split <;> rfl
@[simp] theorem State.disableTask_byteVars (s : State) : (s.disableTask).byteVars = s.byteVars := by
  unfold State.disableTask; split <;> rfl
@[simp] theorem State.disableTask_filterAddr (s : State) : (s.disableTask).filterAddr = s.filterAddr := by
  unfold State.disableTask; split <;> rfl
@[simp] theorem State.disableTask_pduResult (s : State) : (s.disableTask).pduResult = s.pduResult := by
  unfold State.disableTask; split <;> rfl
@[simp] theorem State.disableTask_result (s : State) : (s.disableTask).result = s.result := by
  unfold State.disableTask; split <;> rfl
@[simp] theorem State.disableTask_airIn (s : State) : (s.disableTask).airIn = s.airIn := by
  unfold State.disableTask; split <;> rfl
@[simp] theorem State.disableTask_airLog (s : State) : (s.disableTask).airLog = s.airLog := by
  unfold State.disableTask; split <;> rfl
@[simp] theorem State.disableTask_turns (s : State) : (s.disableTask).turns = s.turns := by
  unfold State.disableTask; split <;> rfl
@[simp] theorem State.disableTask_tick (s : State) : (s.disableTask).tick = s.tick := by
  unfold State.disableTask; split <;> rfl
@[simp] theorem State.disableTask_fault (s : State) : (s.disableTask).fault = s.fault := by
  unfold State.disableTask; split <;> rfl
@[simp] theorem State.disableTask_refused (s : State) : (s.disableTask).refused = s.refused := by
  unfold State.disableTask; split <;> rfl

/-! ### `State.signal` -/

@[simp] theorem State.signal_memMap (s : State) (e : Event) : (s.signal e).memMap = s.memMap := by
  cases e <;> simp only [State.signal] <;> (try split) <;> simp
@[simp] theorem State.signal_hfState (s : State) (e : Event) : (s.signal e).hfState = s.hfState := by
  cases e <;> simp only [State.signal] <;> (try split) <;> simp
@[simp] theorem State.signal_evHfclkStarted (s : State) (e : Event) : (s.signal e).evHfclkStarted = s.evHfclkStarted := by
  cases e <;> simp only [State.signal] <;> (try split) <;> simp
@[simp] theorem State.signal_powered (s : State) (e : Event) : (s.signal e).powered = s.powered := by
  cases e <;> simp only [State.signal] <;> (try split) <;> simp
@[simp] theorem State.signal_cfg (s : State) (e : Event) : (s.signal e).cfg = s.cfg := by
  cases e <;> simp only [State.signal] <;> (try split) <;> simp
@[simp] theorem State.signal_written (s : State) (e : Event) : (s.signal e).written = s.written := by
  cases e <;> simp only [State.signal] <;> (try split) <;> simp
@[simp] theorem State.signal_intMask (s : State) (e : Event) : (s.signal e).intMask = s.intMask := by
  cases e <;> simp only [State.signal] <;> (try split) <;> simp
@[simp] theorem State.signal_crcStatus (s : State) (e : Event) : (s.signal e).crcStatus = s.crcStatus := by
  cases e <;> simp only [State.signal] <;> (try split) <;> simp
@[simp] theorem State.signal_rxMatch (s : State) (e : Event) : (s.signal e).rxMatch = s.rxMatch := by
  cases e <;> simp only [State.signal] <;> (try split) <;> simp
@[simp] theorem State.signal_rxCrc (s : State) (e : Event) : (s.signal e).rxCrc = s.rxCrc := by
  cases e <;> simp only [State.signal] <;> (try split) <;> simp
@[simp] theorem State.signal_amount (s : State) (e : Event) : (s.signal e).amount = s.amount := by
  cases e <;> simp only [State.signal] <;> (try split) <;> simp
@[simp] theorem State.signal_session (s : State) (e : Event) : (s.signal e).session = s.session := by
  cases e <;> simp only [State.signal] <;> (try split) <;> simp
@[simp] theorem State.signal_dmaRegions (s : State) (e : Event) : (s.signal e).dmaRegions = s.dmaRegions := by
  cases e <;> simp only [State.signal] <;> (try split) <;> simp
@[simp] theorem State.signal_crcReg (s : State) (e : Event) : (s.signal e).crcReg = s.crcReg := by
  cases e <;> simp only [State.signal] <;> (try split) <;> simp
@[simp] theorem State.signal_whiteLfsr (s : State) (e : Event) : (s.signal e).whiteLfsr = s.whiteLfsr := by
  cases e <;> simp only [State.signal] <;> (try split) <;> simp
@[simp] theorem State.signal_curLen (s : State) (e : Event) : (s.signal e).curLen = s.curLen := by
  cases e <;> simp only [State.signal] <;> (try split) <;> simp
@[simp] theorem State.signal_curS0 (s : State) (e : Event) : (s.signal e).curS0 = s.curS0 := by
  cases e <;> simp only [State.signal] <;> (try split) <;> simp
@[simp] theorem State.signal_rxFrame (s : State) (e : Event) : (s.signal e).rxFrame = s.rxFrame := by
  cases e <;> simp only [State.signal] <;> (try split) <;> simp
@[simp] theorem State.signal_rxSeed (s : State) (e : Event) : (s.signal e).rxSeed = s.rxSeed := by
  cases e <;> simp only [State.signal] <;> (try split) <;> simp
@[simp] theorem State.signal_txBits (s : State) (e : Event) : (s.signal e).txBits = s.txBits := by
  cases e <;> simp only [State.signal] <;> (try split) <;> simp
@[simp] theorem State.signal_antPattern (s : State) (e : Event) : (s.signal e).antPattern = s.antPattern := by
  cases e <;> simp only [State.signal] <;> (try split) <;> simp
@[simp] theorem State.signal_ram (s : State) (e : Event) : (s.signal e).ram = s.ram := by
  cases e <;> simp only [State.signal] <;> (try split) <;> simp
@[simp] theorem State.signal_script (s : State) (e : Event) : (s.signal e).script = s.script := by
  cases e <;> simp only [State.signal] <;> (try split) <;> simp
@[simp] theorem State.signal_hpc (s : State) (e : Event) : (s.signal e).hpc = s.hpc := by
  cases e <;> simp only [State.signal] <;> (try split) <;> simp
@[simp] theorem State.signal_busData (s : State) (e : Event) : (s.signal e).busData = s.busData := by
  cases e <;> simp only [State.signal] <;> (try split) <;> simp
@[simp] theorem State.signal_wordVars (s : State) (e : Event) : (s.signal e).wordVars = s.wordVars := by
  cases e <;> simp only [State.signal] <;> (try split) <;> simp
@[simp] theorem State.signal_byteVars (s : State) (e : Event) : (s.signal e).byteVars = s.byteVars := by
  cases e <;> simp only [State.signal] <;> (try split) <;> simp
@[simp] theorem State.signal_filterAddr (s : State) (e : Event) : (s.signal e).filterAddr = s.filterAddr := by
  cases e <;> simp only [State.signal] <;> (try split) <;> simp
@[simp] theorem State.signal_pduResult (s : State) (e : Event) : (s.signal e).pduResult = s.pduResult := by
  cases e <;> simp only [State.signal] <;> (try split) <;> simp
@[simp] theorem State.signal_result (s : State) (e : Event) : (s.signal e).result = s.result := by
  cases e <;> simp only [State.signal] <;> (try split) <;> simp
@[simp] theorem State.signal_airIn (s : State) (e : Event) : (s.signal e).airIn = s.airIn := by
  cases e <;> simp only [State.signal] <;> (try split) <;> simp
@[simp] theorem State.signal_airLog (s : State) (e : Event) : (s.signal e).airLog = s.airLog := by
  cases e <;> simp only [State.signal] <;> (try split) <;> simp
@[simp] theorem State.signal_turns (s : State) (e : Event) : (s.signal e).turns = s.turns := by
  cases e <;> simp only [State.signal] <;> (try split) <;> simp
@[simp] theorem State.signal_tick (s : State) (e : Event) : (s.signal e).tick = s.tick := by
  cases e <;> simp only [State.signal] <;> (try split) <;> simp
@[simp] theorem State.signal_fault (s : State) (e : Event) : (s.signal e).fault = s.fault := by
  cases e <;> simp only [State.signal] <;> (try split) <;> simp
@[simp] theorem State.signal_refused (s : State) (e : Event) : (s.signal e).refused = s.refused := by
  cases e <;> simp only [State.signal] <;> (try split) <;> simp

/-! ### `State.disableStep` -/

@[simp] theorem State.disableStep_memMap (s : State) : (s.disableStep).memMap = s.memMap := rfl
@[simp] theorem State.disableStep_hfState (s : State) : (s.disableStep).hfState = s.hfState := rfl
@[simp] theorem State.disableStep_evHfclkStarted (s : State) : (s.disableStep).evHfclkStarted = s.evHfclkStarted := rfl
@[simp] theorem State.disableStep_powered (s : State) : (s.disableStep).powered = s.powered := rfl
@[simp] theorem State.disableStep_cfg (s : State) : (s.disableStep).cfg = s.cfg := rfl
@[simp] theorem State.disableStep_written (s : State) : (s.disableStep).written = s.written := rfl
@[simp] theorem State.disableStep_intMask (s : State) : (s.disableStep).intMask = s.intMask := rfl
@[simp] theorem State.disableStep_crcStatus (s : State) : (s.disableStep).crcStatus = s.crcStatus := rfl
@[simp] theorem State.disableStep_rxMatch (s : State) : (s.disableStep).rxMatch = s.rxMatch := rfl
@[simp] theorem State.disableStep_rxCrc (s : State) : (s.disableStep).rxCrc = s.rxCrc := rfl
@[simp] theorem State.disableStep_amount (s : State) : (s.disableStep).amount = s.amount := rfl
@[simp] theorem State.disableStep_phase (s : State) : (s.disableStep).phase = s.phase := rfl
@[simp] theorem State.disableStep_crcReg (s : State) : (s.disableStep).crcReg = s.crcReg := rfl
@[simp] theorem State.disableStep_whiteLfsr (s : State) : (s.disableStep).whiteLfsr = s.whiteLfsr := rfl
@[simp] theorem State.disableStep_curLen (s : State) : (s.disableStep).curLen = s.curLen := rfl
@[simp] theorem State.disableStep_curS0 (s : State) : (s.disableStep).curS0 = s.curS0 := rfl
@[simp] theorem State.disableStep_rxFrame (s : State) : (s.disableStep).rxFrame = s.rxFrame := rfl
@[simp] theorem State.disableStep_rxSeed (s : State) : (s.disableStep).rxSeed = s.rxSeed := rfl
@[simp] theorem State.disableStep_txBits (s : State) : (s.disableStep).txBits = s.txBits := rfl
@[simp] theorem State.disableStep_antPattern (s : State) : (s.disableStep).antPattern = s.antPattern := rfl
@[simp] theorem State.disableStep_ram (s : State) : (s.disableStep).ram = s.ram := rfl
@[simp] theorem State.disableStep_script (s : State) : (s.disableStep).script = s.script := rfl
@[simp] theorem State.disableStep_hpc (s : State) : (s.disableStep).hpc = s.hpc := rfl
@[simp] theorem State.disableStep_busData (s : State) : (s.disableStep).busData = s.busData := rfl
@[simp] theorem State.disableStep_wordVars (s : State) : (s.disableStep).wordVars = s.wordVars := rfl
@[simp] theorem State.disableStep_byteVars (s : State) : (s.disableStep).byteVars = s.byteVars := rfl
@[simp] theorem State.disableStep_filterAddr (s : State) : (s.disableStep).filterAddr = s.filterAddr := rfl
@[simp] theorem State.disableStep_pduResult (s : State) : (s.disableStep).pduResult = s.pduResult := rfl
@[simp] theorem State.disableStep_result (s : State) : (s.disableStep).result = s.result := rfl
@[simp] theorem State.disableStep_airIn (s : State) : (s.disableStep).airIn = s.airIn := rfl
@[simp] theorem State.disableStep_airLog (s : State) : (s.disableStep).airLog = s.airLog := rfl
@[simp] theorem State.disableStep_turns (s : State) : (s.disableStep).turns = s.turns := rfl
@[simp] theorem State.disableStep_tick (s : State) : (s.disableStep).tick = s.tick := rfl
@[simp] theorem State.disableStep_fault (s : State) : (s.disableStep).fault = s.fault := rfl
@[simp] theorem State.disableStep_refused (s : State) : (s.disableStep).refused = s.refused := rfl

/-! ### `State.iqCapture` -/

@[simp] theorem State.iqCapture_memMap (s : State) : (s.iqCapture).memMap = s.memMap := by
  unfold State.iqCapture; split <;> rfl
@[simp] theorem State.iqCapture_hfState (s : State) : (s.iqCapture).hfState = s.hfState := by
  unfold State.iqCapture; split <;> rfl
@[simp] theorem State.iqCapture_evHfclkStarted (s : State) : (s.iqCapture).evHfclkStarted = s.evHfclkStarted := by
  unfold State.iqCapture; split <;> rfl
@[simp] theorem State.iqCapture_powered (s : State) : (s.iqCapture).powered = s.powered := by
  unfold State.iqCapture; split <;> rfl
@[simp] theorem State.iqCapture_cfg (s : State) : (s.iqCapture).cfg = s.cfg := by
  unfold State.iqCapture; split <;> rfl
@[simp] theorem State.iqCapture_written (s : State) : (s.iqCapture).written = s.written := by
  unfold State.iqCapture; split <;> rfl
@[simp] theorem State.iqCapture_events (s : State) : (s.iqCapture).events = s.events := by
  unfold State.iqCapture; split <;> rfl
@[simp] theorem State.iqCapture_intMask (s : State) : (s.iqCapture).intMask = s.intMask := by
  unfold State.iqCapture; split <;> rfl
@[simp] theorem State.iqCapture_crcStatus (s : State) : (s.iqCapture).crcStatus = s.crcStatus := by
  unfold State.iqCapture; split <;> rfl
@[simp] theorem State.iqCapture_rxMatch (s : State) : (s.iqCapture).rxMatch = s.rxMatch := by
  unfold State.iqCapture; split <;> rfl
@[simp] theorem State.iqCapture_rxCrc (s : State) : (s.iqCapture).rxCrc = s.rxCrc := by
  unfold State.iqCapture; split <;> rfl
@[simp] theorem State.iqCapture_radioState (s : State) : (s.iqCapture).radioState = s.radioState := by
  unfold State.iqCapture; split <;> rfl
@[simp] theorem State.iqCapture_phase (s : State) : (s.iqCapture).phase = s.phase := by
  unfold State.iqCapture; split <;> rfl
@[simp] theorem State.iqCapture_session (s : State) : (s.iqCapture).session = s.session := by
  unfold State.iqCapture; split <;> rfl
@[simp] theorem State.iqCapture_dmaRegions (s : State) : (s.iqCapture).dmaRegions = s.dmaRegions := by
  unfold State.iqCapture; split <;> rfl
@[simp] theorem State.iqCapture_crcReg (s : State) : (s.iqCapture).crcReg = s.crcReg := by
  unfold State.iqCapture; split <;> rfl
@[simp] theorem State.iqCapture_whiteLfsr (s : State) : (s.iqCapture).whiteLfsr = s.whiteLfsr := by
  unfold State.iqCapture; split <;> rfl
@[simp] theorem State.iqCapture_curLen (s : State) : (s.iqCapture).curLen = s.curLen := by
  unfold State.iqCapture; split <;> rfl
@[simp] theorem State.iqCapture_curS0 (s : State) : (s.iqCapture).curS0 = s.curS0 := by
  unfold State.iqCapture; split <;> rfl
@[simp] theorem State.iqCapture_rxFrame (s : State) : (s.iqCapture).rxFrame = s.rxFrame := by
  unfold State.iqCapture; split <;> rfl
@[simp] theorem State.iqCapture_rxSeed (s : State) : (s.iqCapture).rxSeed = s.rxSeed := by
  unfold State.iqCapture; split <;> rfl
@[simp] theorem State.iqCapture_txBits (s : State) : (s.iqCapture).txBits = s.txBits := by
  unfold State.iqCapture; split <;> rfl
@[simp] theorem State.iqCapture_antPattern (s : State) : (s.iqCapture).antPattern = s.antPattern := by
  unfold State.iqCapture; split <;> rfl
@[simp] theorem State.iqCapture_script (s : State) : (s.iqCapture).script = s.script := by
  unfold State.iqCapture; split <;> rfl
@[simp] theorem State.iqCapture_hpc (s : State) : (s.iqCapture).hpc = s.hpc := by
  unfold State.iqCapture; split <;> rfl
@[simp] theorem State.iqCapture_busData (s : State) : (s.iqCapture).busData = s.busData := by
  unfold State.iqCapture; split <;> rfl
@[simp] theorem State.iqCapture_wordVars (s : State) : (s.iqCapture).wordVars = s.wordVars := by
  unfold State.iqCapture; split <;> rfl
@[simp] theorem State.iqCapture_byteVars (s : State) : (s.iqCapture).byteVars = s.byteVars := by
  unfold State.iqCapture; split <;> rfl
@[simp] theorem State.iqCapture_filterAddr (s : State) : (s.iqCapture).filterAddr = s.filterAddr := by
  unfold State.iqCapture; split <;> rfl
@[simp] theorem State.iqCapture_pduResult (s : State) : (s.iqCapture).pduResult = s.pduResult := by
  unfold State.iqCapture; split <;> rfl
@[simp] theorem State.iqCapture_result (s : State) : (s.iqCapture).result = s.result := by
  unfold State.iqCapture; split <;> rfl
@[simp] theorem State.iqCapture_airIn (s : State) : (s.iqCapture).airIn = s.airIn := by
  unfold State.iqCapture; split <;> rfl
@[simp] theorem State.iqCapture_airLog (s : State) : (s.iqCapture).airLog = s.airLog := by
  unfold State.iqCapture; split <;> rfl
@[simp] theorem State.iqCapture_turns (s : State) : (s.iqCapture).turns = s.turns := by
  unfold State.iqCapture; split <;> rfl
@[simp] theorem State.iqCapture_tick (s : State) : (s.iqCapture).tick = s.tick := by
  unfold State.iqCapture; split <;> rfl
@[simp] theorem State.iqCapture_fault (s : State) : (s.iqCapture).fault = s.fault := by
  unfold State.iqCapture; split <;> rfl
@[simp] theorem State.iqCapture_refused (s : State) : (s.iqCapture).refused = s.refused := by
  unfold State.iqCapture; split <;> rfl

/-- `signal` sets exactly the flag of its event (R176); the shortcut tasks write no flag. -/
@[simp] theorem State.signal_events (s : State) (e : Event) : (s.signal e).events = s.events.set e true := by
  cases e <;> simp only [State.signal] <;> (try split) <;> simp

/-- Only READY and PHYEND carry a shortcut (R176). -/
theorem State.signal_plain (s : State) (e : Event) (h1 : e ≠ .ready) (h2 : e ≠ .phyend) :
    s.signal e = s.setEvent e true := by
  cases e <;> simp_all [State.signal]

/-- The disable step signals DISABLED (R187). -/
@[simp] theorem State.disableStep_events (s : State) :
    s.disableStep.events = s.events.set .disabled true := rfl

/-- The disable step ends in DISABLED (R187). -/
@[simp] theorem State.disableStep_radioState (s : State) : s.disableStep.radioState = .disabled := rfl

/-- The disable step ends the session (R187). -/
@[simp] theorem State.disableStep_session (s : State) : s.disableStep.session = .none := rfl

/-- The disable step frees the buffers (R187). -/
@[simp] theorem State.disableStep_dmaRegions (s : State) : s.disableStep.dmaRegions = [] := rfl

end Sys2Proof.Machine
end

