-- ==== Sys2Proof/Laws/Ops.lean ====
section
/-!
SUPPORT. What each shared operation can do, said once: the keyed data and RAM, the register file, the event flags, the
access shapes, the session-start check and HOST's RAM accesses. Later proofs cite these instead of unfolding.
-/

namespace Sys2Proof.Machine

/-! ### Keyed data -/

/-- An address of empty RAM holds what an unlisted address holds. -/
theorem keyGet_nil_eq_unlisted (a : Nat) : keyGet ([] : Memory) a = Memory.unlisted := rfl

@[simp] theorem keyGet_nil {α : Type} (a : Nat) : keyGet ([] : List (Nat × α)) a = none := rfl

/-- Reading after a put: the put value at its key, the old value elsewhere. -/
theorem keyGet_keyPut {α : Type} (m : List (Nat × α)) (a x : Nat) (b : α) :
    keyGet (keyPut m a b) x = if x = a then some b else keyGet m x := by
  induction m with
  | nil => simp [keyPut, keyGet]
  | cons c rest ih =>
    obtain ⟨k, v⟩ := c
    simp only [keyPut]
    split
    · simp only [keyGet]
    · split
      · subst_vars
        by_cases hx : x = k <;> simp [keyGet, hx]
      · simp only [keyGet, ih]
        split <;> rename_i hx <;> split <;> simp_all

@[simp] theorem keyGet_keyPut_self {α : Type} (m : List (Nat × α)) (a : Nat) (b : α) :
    keyGet (keyPut m a b) a = some b := by simp [keyGet_keyPut]

theorem keyGet_keyPut_ne {α : Type} (m : List (Nat × α)) {a x : Nat} (b : α) (h : x ≠ a) :
    keyGet (keyPut m a b) x = keyGet m x := by simp [keyGet_keyPut, h]

/-- What a put list holds. -/
theorem mem_keyPut {α : Type} {m : List (Nat × α)} {a : Nat} {b : α} {c : Nat × α} (h : c ∈ keyPut m a b) :
    c = (a, b) ∨ c ∈ m := by
  induction m with
  | nil => simpa [keyPut] using h
  | cons d rest ih =>
    obtain ⟨k, v⟩ := d
    simp only [keyPut] at h
    split at h
    · simpa using h
    · split at h
      · simp only [List.mem_cons] at h ⊢
        tauto
      · simp only [List.mem_cons] at h ⊢
        rcases h with h | h
        · tauto
        · rcases ih h with h | h <;> tauto

theorem keysRiseFrom_keyPut {α : Type} (m : List (Nat × α)) (lo a : Nat) (b : α) (h : keysRiseFrom lo m = true)
    (ha : lo ≤ a) : keysRiseFrom lo (keyPut m a b) = true := by
  induction m generalizing lo with
  | nil => simp [keyPut, keysRiseFrom, ha]
  | cons c rest ih =>
    obtain ⟨k, v⟩ := c
    simp only [keysRiseFrom, Bool.and_eq_true, decide_eq_true_eq] at h
    simp only [keyPut]
    split
    · simp only [keysRiseFrom, Bool.and_eq_true, decide_eq_true_eq]
      exact ⟨ha, by omega, h.2⟩
    · split
      · subst_vars
        simp [keysRiseFrom, h]
      · simp only [keysRiseFrom, Bool.and_eq_true, decide_eq_true_eq]
        exact ⟨h.1, ih _ h.2 (by omega)⟩

/-- A put keeps the canonical form. -/
theorem keysRise_keyPut {α : Type} (m : List (Nat × α)) (a : Nat) (b : α) (h : keysRise m = true) :
    keysRise (keyPut m a b) = true := keysRiseFrom_keyPut m 0 a b h (Nat.zero_le a)

/-! ### RAM -/

@[simp] theorem writeBytes_nil (m : Memory) (a : Nat) : writeBytes m a [] = m := rfl

theorem writeBytes_cons (m : Memory) (a : Nat) (b : Byte) (rest : List Byte) :
    writeBytes m a (b :: rest) = writeBytes (keyPut m a b) (a + 1) rest := rfl

/-- Storing bytes keeps the canonical form. -/
theorem writeBytes_wf (m : Memory) (a : Nat) (bytes : List Byte) (h : m.wf = true) :
    Memory.wf (writeBytes m a bytes) = true := by
  induction bytes generalizing m a with
  | nil => exact h
  | cons b rest ih => exact ih _ _ (keysRise_keyPut m a b h)

/-- Every memory operation keeps the canonical form. -/
theorem storeBytes_wf (s : State) (a : Nat) (bytes : List Byte) (h : s.ram.wf = true) :
    Memory.wf (s.storeBytes a bytes).ram = true := writeBytes_wf _ _ _ h

/-- RAM after reset is in canonical form. -/
theorem reset_ram_wf : State.reset.ram.wf = true := rfl

/-- What RAM lists after a store: the bytes stored and what was there. -/
theorem mem_writeBytes {m : Memory} {a : Nat} {bytes : List Byte} {c : Host.Cell} (h : c ∈ writeBytes m a bytes) :
    (a ≤ c.1 ∧ c.1 < a + bytes.length) ∨ c ∈ m := by
  induction bytes generalizing m a with
  | nil => exact .inr h
  | cons b rest ih =>
    rcases ih h with h | h
    · simp only [List.length_cons]; omega
    · rcases mem_keyPut h with rfl | h
      · simp
      · exact .inr h

/-- Reading after a store, outside the bytes stored. -/
theorem keyGet_writeBytes_of_outside (m : Memory) (a x : Nat) (bytes : List Byte)
    (h : x < a ∨ a + bytes.length ≤ x) : keyGet (writeBytes m a bytes) x = keyGet m x := by
  induction bytes generalizing m a with
  | nil => rfl
  | cons b rest ih =>
    simp only [List.length_cons] at h
    rw [writeBytes_cons, ih _ _ (by omega), keyGet_keyPut_ne _ _ (by omega)]

/-- Reading after a store, inside the bytes stored. -/
theorem keyGet_writeBytes_of_inside (m : Memory) (a k : Nat) (bytes : List Byte) (h : k < bytes.length) :
    keyGet (writeBytes m a bytes) (a + k) = some bytes[k] := by
  induction bytes generalizing m a k with
  | nil => simp at h
  | cons b rest ih =>
    rw [writeBytes_cons]
    cases k with
    | zero => rw [keyGet_writeBytes_of_outside _ _ _ _ (by omega)]; simp
    | succ k =>
      simp only [List.length_cons] at h
      have := ih (keyPut m a b) (a + 1) k (by omega)
      simpa [Nat.add_assoc, Nat.add_comm 1 k] using this

/-- `ramByte` looks at RAM only. -/
theorem ramByte_congr {s t : State} (h : t.ram = s.ram) (a : Nat) : t.ramByte a = s.ramByte a := by
  simp [State.ramByte, h]

/-- A byte of RAM after a store, outside it: R14. -/
theorem ramByte_of_outside {s t : State} {a : Nat} {bytes : List Byte} (ht : t.ram = writeBytes s.ram a bytes)
    {x : Nat} (h : x < a ∨ a + bytes.length ≤ x) : t.ramByte x = s.ramByte x := by
  simp [State.ramByte, ht, keyGet_writeBytes_of_outside _ _ _ _ h]

/-- A byte of RAM after a store, inside it: R14. -/
theorem ramByte_of_inside {s t : State} {a : Nat} {bytes : List Byte} (ht : t.ram = writeBytes s.ram a bytes)
    {k : Nat} (h : k < bytes.length) : t.ramByte (a + k) = bytes[k] := by
  simp [State.ramByte, ht, keyGet_writeBytes_of_inside _ _ _ _ h]

@[simp] theorem length_ramBytes (s : State) (a n : Nat) : (s.ramBytes a n).length = n := by simp [State.ramBytes]

@[simp] theorem length_wordBytes (w : Word) : (wordBytes w).length = 4 := rfl

/-! ### The register file and the event flags -/

/-- A register after a write: the written one, the others as before. -/
@[simp] theorem RegFile.get_set {α : Type} (f : RegFile α) (r q : CfgReg) (a : α) :
    (f.set r a).get q = if q = r then a else f.get q := by
  cases r <;> cases q <;> rfl

@[simp] theorem RegFile.get_all {α : Type} (a : α) (r : CfgReg) : (RegFile.all a).get r = a := by
  cases r <;> rfl

/-- R60: what each register holds after reset. -/
theorem RegFile.get_atReset (r : CfgReg) :
    RegFile.atReset.get r = if r = .datawhiteiv then 0x40#32 else 0#32 := by cases r <;> rfl

/-- A flag after one was replaced. -/
@[simp] theorem EventFile.get_set (f : EventFile) (e q : Event) (b : Bool) :
    (f.set e b).get q = if q = e then b else f.get q := by cases e <;> cases q <;> rfl

@[simp] theorem EventFile.get_clear (e : Event) : EventFile.clear.get e = false := by cases e <;> rfl

/-- Two flag files with the same flags are one. -/
theorem EventFile.ext_get {f g : EventFile} (h : ∀ e, f.get e = g.get e) : f = g := by
  cases f; cases g
  have h1 := h .ready; have h2 := h .address; have h3 := h .payload; have h4 := h .end_
  have h5 := h .disabled; have h6 := h .crcok; have h7 := h .crcerror; have h8 := h .phyend
  simp_all [EventFile.get]

/-- R42: the hardwired bit lies outside the fields. -/
theorem hardwiredOnes_and_fieldMask (r : CfgReg) : hardwiredOnes r &&& fieldMask r = 0#32 := by
  cases r <;> decide

/-- R42: a hardwired bit is not a bit a write stores. -/
theorem hardwiredOnes_and_storeMask (r : CfgReg) : hardwiredOnes r &&& storeMask r = 0#32 := by
  cases r <;> decide

/-- R11: a write stores every bit of the fields. -/
theorem storeMask_and_fieldMask (r : CfgReg) : storeMask r &&& fieldMask r = fieldMask r := by
  cases r <;> decide

/-- Storing twice is storing once. -/
@[simp] theorem storeFields_storeFields (r : CfgReg) (w : Word) :
    storeFields r (storeFields r w) = storeFields r w := by
  have h := hardwiredOnes_and_storeMask r
  unfold storeFields
  generalize hardwiredOnes r = o at h ⊢
  generalize storeMask r = m at h ⊢
  ext i hi
  have := congrArg (fun x : Word => x.getLsbD i) h
  simp at this ⊢
  cases o[i] <;> simp_all

/-- R11, R151: what a read shows of a stored word is what it shows of the word written. -/
@[simp] theorem keepFields_storeFields (r : CfgReg) (w : Word) : keepFields r (storeFields r w) = keepFields r w := by
  have h := hardwiredOnes_and_fieldMask r
  have h' := storeMask_and_fieldMask r
  unfold keepFields storeFields
  generalize hardwiredOnes r = o at h ⊢
  generalize storeMask r = m at h' ⊢
  generalize fieldMask r = f at h h' ⊢
  ext i hi
  have h1 := congrArg (fun x : Word => x.getLsbD i) h
  have h2 := congrArg (fun x : Word => x.getLsbD i) h'
  simp at h1 h2 ⊢
  cases ho : o[i] <;> cases hf : f[i] <;> simp_all

/-- Keeping the fields twice is keeping them once. -/
@[simp] theorem keepFields_keepFields (r : CfgReg) (w : Word) : keepFields r (keepFields r w) = keepFields r w := by
  have h := hardwiredOnes_and_fieldMask r
  unfold keepFields
  generalize hardwiredOnes r = a at h ⊢
  generalize fieldMask r = m at h ⊢
  apply BitVec.eq_of_getLsbD_eq
  intro i hi
  have := congrArg (fun v : Word => v.getLsbD i) h
  simp at this
  simp only [BitVec.getLsbD_or, BitVec.getLsbD_and]
  cases w.getLsbD i <;> cases m.getLsbD i <;> cases a.getLsbD i <;> simp_all

/-! ### The guards and the access shapes -/

/-- R175: an access that completes found the radio powered. -/
theorem ifPowered_next {s t : State} {o : Out} (h : s.ifPowered o = .next t) : s.powered = true ∧ o = .next t := by
  unfold State.ifPowered at h
  split at h
  · exact ⟨‹_›, h⟩
  · cases h

theorem ifPowered_of_powered {s : State} (h : s.powered = true) (o : Out) : s.ifPowered o = o := by
  simp [State.ifPowered, h]

theorem ifPowered_of_unpowered {s : State} (h : s.powered = false) (o : Out) :
    s.ifPowered o = .refused .radioUnpowered := by simp [State.ifPowered, h]

/-- R179: the radio is idle exactly when it is DISABLED with no session. -/
theorem busy_eq_false (s : State) : s.busy = false ↔ s.session = .none ∧ s.radioState = .disabled := by
  simp [State.busy]

theorem busy_eq_true (s : State) : s.busy = true ↔ s.session ≠ .none ∨ s.radioState ≠ .disabled := by
  simp [State.busy]

/-- R24: all a task access that completes can have done. -/
theorem taskAccess_next {act : State → Out} {op : BusOp} {s t : State} (h : taskAccess act op s = .next t) :
    ∃ d, op = .wr d ∧ s.powered = true ∧
      ((d.getLsbD 0 = true ∧ act s = .next t) ∨ (d.getLsbD 0 = false ∧ t = s)) := by
  cases op with
  | rd => cases h
  | wr d =>
    obtain ⟨hp, h⟩ := ifPowered_next h
    refine ⟨d, rfl, hp, ?_⟩
    split at h
    · exact .inl ⟨‹_›, h⟩
    · cases h; exact .inr ⟨by simp_all, rfl⟩

/-- R177, R178: all an event access that completes can have done. -/
theorem eventAccess_next {e : Event} {op : BusOp} {s t : State} (h : eventAccess e op s = .next t) :
    s.powered = true ∧
      ((op = .rd ∧ t = s.readBus (zextBool (s.events.get e))) ∨ (op = .wr 0#32 ∧ t = s.setEvent e false)) := by
  obtain ⟨hp, h⟩ := ifPowered_next h
  refine ⟨hp, ?_⟩
  cases op with
  | rd => cases h; exact .inl ⟨rfl, rfl⟩
  | wr d =>
    simp only at h
    split at h
    · rename_i hd
      cases h
      exact .inr ⟨by rw [hd], rfl⟩
    · cases h

/-- R179: all a configuration access that completes can have done. -/
theorem configAccess_next {r : CfgReg} {op : BusOp} {s t : State} (h : configAccess r op s = .next t) :
    s.powered = true ∧
      ((op = .rd ∧ t = s.readBus (s.reg r)) ∨ ∃ d, op = .wr d ∧ s.busy = false ∧ t = s.writeReg r d) := by
  obtain ⟨hp, h⟩ := ifPowered_next h
  refine ⟨hp, ?_⟩
  cases op with
  | rd => cases h; exact .inl ⟨rfl, rfl⟩
  | wr d =>
    simp only at h
    split at h
    · cases h
    · cases h; exact .inr ⟨d, rfl, by simp_all, rfl⟩

/-- R181: all a status access that completes can have done. -/
theorem statusAccess_next {value : State → Word} {op : BusOp} {s t : State}
    (h : statusAccess value op s = .next t) : op = .rd ∧ s.powered = true ∧ t = s.readBus (value s) := by
  cases op with
  | wr d => cases h
  | rd =>
    obtain ⟨hp, h⟩ := ifPowered_next h
    cases h
    exact ⟨rfl, hp, rfl⟩

/-- R180: what holds when the session-start check passes, and the state it leaves. -/
theorem sessionStart_next {kind : Session} {s t : State} (h : sessionStart kind s = .next t) :
    s.session = .none ∧ s.radioState = .disabled ∧ s.hfState = .running ∧ s.unwrittenRegs kind = [] ∧
      s.notAdmittedRegs kind = [] ∧ s.pointersAligned kind = true ∧ (∀ g ∈ s.sessionRegions kind, g.inRam s.memMap = true) ∧
      t = s.beginSession kind := by
  unfold sessionStart at h
  split at h
  · cases h
  · rename_i hb
    obtain ⟨h1, h2⟩ := (busy_eq_false s).1 (by simpa using hb)
    split at h
    · cases h
    · split at h
      · cases h
      · split at h
        · cases h
        · split at h
          · cases h
          · split at h
            · cases h
            · rename_i hf
              cases h
              refine ⟨h1, h2, by simp_all, by simp_all, by simp_all, by simp_all, ?_, rfl⟩
              intro g hg
              simpa using List.find?_eq_none.1 hf g hg

/-! ### HOST -/

theorem andThen_next {o : Out} {f : State → State} {t : State} (h : andThen o f = .next t) :
    ∃ u, o = .next u ∧ t = f u := by
  cases o with
  | next u => cases h; exact ⟨u, rfl, rfl⟩
  | fault r => cases h
  | refused r => cases h

/-- R170: a bus access that completes decoded to an instruction, and is its meaning. -/
theorem busAccess_next {a : BusAccess} {s t : State} (h : busAccess a s = .next t) :
    ∃ i, decodeAccess s.memMap a = .ok i ∧ exec i s = .next t := by
  unfold busAccess at h
  split at h
  · exact ⟨_, ‹_›, h⟩
  · cases h

/-- R71: no byte of the range is outside RAM. -/
theorem firstOutsideRam_none {m : MemMap} {a n : Nat} (h : firstOutsideRam m a n = none) (hn : 0 < n) :
    m.ramBase ≤ a ∧ a + n ≤ m.ramBase + m.ramSize := by
  unfold firstOutsideRam at h
  split at h
  · omega
  · split at h
    · cases h
    · split at h
      · cases h
      · omega

/-- R84: no byte of the range is one a session in flight may touch. -/
theorem firstRace_none {s : State} {a n : Nat} (h : s.firstRace a n = none) (hs : s.session ≠ .none) {k : Nat}
    (hk : k < n) : s.inDma (a + k) = false := by
  simp only [State.firstRace, hs, if_false, List.find?_eq_none, List.mem_map, List.mem_range] at h
  simpa using h (a + k) ⟨k, hk, rfl⟩

/-- R84: what a HOST load or store that completes has passed. -/
theorem hostRam_next {s t u : State} {a n : Nat} (h : hostRam s a n u = .next t) :
    firstOutsideRam s.memMap a n = none ∧ s.firstRace a n = none ∧ t = u := by
  unfold hostRam at h
  split at h
  · cases h
  · split at h
    · cases h
    · cases h; exact ⟨‹_›, ‹_›, rfl⟩

/-- R170: a step that completes found the run not stopped. -/
theorem ifRunning_next {s t : State} {o : Out} (h : s.ifRunning o = .next t) :
    s.fault = none ∧ s.refused = none ∧ o = .next t := by
  unfold State.ifRunning at h
  split at h
  · cases h
  · cases h
  · exact ⟨‹_›, ‹_›, h⟩

/-- R170: a step that completes is a turn of the agent whose turn it is. -/
theorem step_next {s t : State} (h : step s = .next t) :
    s.fault = none ∧ s.refused = none ∧ agentStep s.nextAgent s.beginTurn = .next t := ifRunning_next h

/-- R170: while the run goes on, a step is the turn of the agent whose turn it is. -/
theorem step_running {s : State} (h1 : s.fault = none) (h2 : s.refused = none) :
    step s = agentStep s.nextAgent s.beginTurn := by
  simp [step, machineStep, State.ifRunning, h1, h2]

end Sys2Proof.Machine
end

