-- ==== Sys2Proof/Laws/Exec.lean ====
section
/-!
SUPPORT. All that an instruction, and a statement of HOST, can do to the state, said once.
-/

namespace Sys2Proof.Machine

/-- The ways in which an instruction that completes changes the state. -/
inductive ExecEffect (s : State) : State → Prop where
  /-- A write of 0 to a task register, or a POWER or CLOCK write that changes nothing. -/
  | same : ExecEffect s s
  /-- A register read. -/
  | read (w : Word) : ExecEffect s (s.readBus w)
  /-- R171. -/
  | hfclk : ExecEffect s s.startHfclk
  /-- R174. -/
  | clearHfEvent : ExecEffect s { s with evHfclkStarted := false }
  /-- R180. -/
  | session (kind : Session) (hk : kind ≠ .none) (hp : s.powered = true)
      (h : sessionStart kind s = .next (s.beginSession kind)) : ExecEffect s (s.beginSession kind)
  /-- R184. -/
  | start (hp : s.powered = true) (h : s.radioState = .txidle ∨ s.radioState = .rxidle) : ExecEffect s s.startTask
  /-- R178. -/
  | clearEvent (hp : s.powered = true) (e : Event) : ExecEffect s (s.setEvent e false)
  /-- R179. -/
  | write (hp : s.powered = true) (hb : s.busy = false) (r : CfgReg) (d : Word) : ExecEffect s (s.writeReg r d)
  /-- R236. -/
  | pattern (hp : s.powered = true) (hb : s.busy = false) (d : Word) : ExecEffect s (s.appendPattern d)
  /-- R237. -/
  | noPattern (hp : s.powered = true) (hb : s.busy = false) : ExecEffect s s.clearPattern
  /-- R173. -/
  | powerUp (hb : s.busy = false) : ExecEffect s { s with powered := true }
  /-- R173. -/
  | powerDown (hb : s.busy = false) : ExecEffect s s.powerDown
  /-- R140. -/
  | pdu (r : PduResult) : ExecEffect s { s with pduResult := r }

theorem ExecEffect.of_task {act : State → Out} {op : BusOp} {s t : State} (h : taskAccess act op s = .next t)
    (ha : s.powered = true → act s = .next t → ExecEffect s t) : ExecEffect s t := by
  obtain ⟨d, -, hp, ⟨-, h⟩ | ⟨-, rfl⟩⟩ := taskAccess_next h
  · exact ha hp h
  · exact .same

theorem ExecEffect.of_sessionStart {kind : Session} {s t : State} (hk : kind ≠ .none) (hp : s.powered = true)
    (h : sessionStart kind s = .next t) : ExecEffect s t := by
  obtain rfl := (sessionStart_next h).2.2.2.2.2.2.2
  exact .session kind hk hp h

theorem ExecEffect.of_hostStart {s t : State} (hp : s.powered = true) (h : hostStart s = .next t) :
    ExecEffect s t := by
  unfold hostStart at h
  split at h
  · cases h; exact .start hp ‹_›
  · cases h

theorem ExecEffect.of_event {e : Event} {op : BusOp} {s t : State} (h : eventAccess e op s = .next t) :
    ExecEffect s t := by
  obtain ⟨hp, ⟨-, rfl⟩ | ⟨-, rfl⟩⟩ := eventAccess_next h
  · exact .read _
  · exact .clearEvent hp e

theorem ExecEffect.of_config {r : CfgReg} {op : BusOp} {s t : State} (h : configAccess r op s = .next t) :
    ExecEffect s t := by
  obtain ⟨hp, ⟨-, rfl⟩ | ⟨d, -, hb, rfl⟩⟩ := configAccess_next h
  · exact .read _
  · exact .write hp hb r d

theorem ExecEffect.of_status {value : State → Word} {op : BusOp} {s t : State}
    (h : statusAccess value op s = .next t) : ExecEffect s t := by
  obtain ⟨-, -, rfl⟩ := statusAccess_next h
  exact .read _

theorem ExecEffect.of_shorts {op : BusOp} {s t : State} (h : execShorts op s = .next t) : ExecEffect s t := by
  cases op with
  | rd => exact .of_config (r := .shorts) (op := .rd) h
  | wr d =>
    unfold execShorts at h
    simp only at h
    split at h
    · exact .of_config h
    · exact nomatch (ifPowered_next h).2

theorem ExecEffect.of_clock {op : BusOp} {s t : State} (h : execClockTasksHfclkstart op s = .next t) :
    ExecEffect s t := by
  cases op with
  | rd => cases h
  | wr d =>
    unfold execClockTasksHfclkstart at h
    simp only at h
    split at h <;> cases h
    · exact .hfclk
    · exact .same

theorem ExecEffect.of_clockEvent {op : BusOp} {s t : State} (h : execClockEventsHfclkstarted op s = .next t) :
    ExecEffect s t := by
  cases op with
  | rd => cases h; exact .read _
  | wr d =>
    unfold execClockEventsHfclkstarted at h
    simp only at h
    split at h <;> cases h
    exact .clearHfEvent

theorem ExecEffect.of_switchpattern {op : BusOp} {s t : State} (h : execSwitchpattern op s = .next t) :
    ExecEffect s t := by
  cases op with
  | rd => cases h
  | wr d =>
    obtain ⟨hp, h⟩ := ifPowered_next h
    split at h <;> cases h
    exact .pattern hp (by simp_all) d

theorem ExecEffect.of_clearpattern {op : BusOp} {s t : State} (h : execClearpattern op s = .next t) :
    ExecEffect s t := by
  cases op with
  | rd => cases h
  | wr d =>
    obtain ⟨hp, h⟩ := ifPowered_next h
    split at h
    · cases h
    · split at h <;> cases h
      · exact .noPattern hp (by simp_all)
      · exact .same

theorem ExecEffect.of_power {op : BusOp} {s t : State} (h : execPower op s = .next t) : ExecEffect s t := by
  cases op with
  | rd => cases h; exact .read _
  | wr d =>
    unfold execPower at h
    simp only at h
    split at h
    · cases h
    · split at h <;> cases h
      · exact .powerUp (by simp_all)
      · exact .powerDown (by simp_all)

/-- All that an instruction can do when it completes. -/
theorem exec_effect {i : Instr} {s t : State} (h : exec i s = .next t) : ExecEffect s t := by
  cases i
  case clockTasksHfclkstart => exact .of_clock h
  case clockEventsHfclkstarted => exact .of_clockEvent h
  case tasksTxen => exact .of_task h (.of_sessionStart nofun)
  case tasksRxen => exact .of_task h (.of_sessionStart nofun)
  case tasksStart => exact .of_task h .of_hostStart
  case tasksStop => exact .of_task (act := fun _ => .refused .unsupported) h nofun
  case tasksDisable => exact .of_task (act := fun _ => .refused .unsupported) h nofun
  case shorts => exact .of_shorts h
  case intenset => exact nomatch (ifPowered_next h).2
  case intenclr => exact nomatch (ifPowered_next h).2
  case switchpattern => exact .of_switchpattern h
  case clearpattern => exact .of_clearpattern h
  case power => exact .of_power h
  case advNonconnInd => cases h; exact .pdu _
  case crcstatus => exact .of_status (value := fun t => zextBool t.crcStatus) h
  case rxmatch => exact .of_status (value := fun t => t.rxMatch.zeroExtend 32) h
  case rxcrc => exact .of_status (value := fun t => t.rxCrc.zeroExtend 32) h
  case state => exact .of_status (value := fun t => stateCode t.radioState) h
  case dfepacketAmount => exact .of_status (value := fun t => t.amount.zeroExtend 32) h
  all_goals first | exact .of_config h | exact .of_event h

/-- All that one statement of HOST can do when it completes (R104, R105): it runs one instruction, stores bytes that no
session owns, or moves HOST's own index, variables and results. -/
inductive HostEffect (s : State) : State → Prop where
  /-- A bus access and the end of its statement. -/
  | bus (u : State) (h : ExecEffect s u) (bind : Option Nat) : HostEffect s (u.finishBus bind)
  /-- One read of a poll. -/
  | poll (u : State) (h : ExecEffect s u) (v : Word) : HostEffect s (u.finishPoll v)
  /-- A PduDecode. -/
  | pdu (a : BitVec 48) (r : PduResult) : HostEffect s ({ s with filterAddr := a, pduResult := r } : State).advance
  /-- A store of bytes, or of a register image. -/
  | store (a : Nat) (bytes : List Byte) (ho : firstOutsideRam s.memMap a bytes.length = none)
      (hr : s.firstRace a bytes.length = none) : HostEffect s (s.storeBytes a bytes).advance
  /-- A load. -/
  | load (v : Nat) (bytes : List Byte) : HostEffect s (s.bindBytes v bytes).advance
  /-- A jump, or the end of a statement that changes nothing else. -/
  | jump (target : Nat) : HostEffect s (s.jump target)
  /-- A return. -/
  | ret (r : HostResult) : HostEffect s ({ s with result := some r } : State).advance
  /-- Past the end of the script. -/
  | idle : HostEffect s s

/-- R95, R96: what the packet decoder accepts is the PDU row. -/
theorem decodePdu_ok {bytes : List Byte} {i : Instr} (h : decodePdu bytes = .ok i) :
    ∃ length advA advData, i = .advNonconnInd length advA advData := by
  unfold decodePdu at h
  split at h
  · split at h <;> cases h
    exact ⟨_, _, _, rfl⟩
  · split at h <;> cases h
  · cases h

/-- All that a statement can do when it completes. -/
theorem runStmt_effect {st : Stmt} {s t : State} (h : runStmt st s = .next t) : HostEffect s t := by
  cases st with
  | bus a bind =>
    obtain ⟨u, hu, rfl⟩ := andThen_next h
    obtain ⟨i, -, hi⟩ := busAccess_next hu
    exact .bus u (exec_effect hi) bind
  | poll a v =>
    obtain ⟨u, hu, rfl⟩ := andThen_next h
    obtain ⟨i, -, hi⟩ := busAccess_next hu
    exact .poll u (exec_effect hi) v
  | store addr bytes =>
    obtain ⟨ho, hr, rfl⟩ := hostRam_next h
    exact .store _ _ ho hr
  | storeWord addr v =>
    obtain ⟨ho, hr, rfl⟩ := hostRam_next h
    exact .store _ (wordBytes (s.wordVar v)) ho hr
  | load addr n bind =>
    obtain ⟨-, -, rfl⟩ := hostRam_next h
    exact .load _ _
  | goto target => cases h; exact .jump _
  | ifGoto c target =>
    cases h
    split
    · exact .jump _
    · exact .jump _
  | refuse r => cases h
  | pduDecode buf expected =>
    obtain ⟨u, hu, rfl⟩ := andThen_next h
    unfold State.runPduDecode at hu
    split at hu
    · rename_i i hi
      obtain ⟨l, a, d, rfl⟩ := decodePdu_ok hi
      cases hu
      exact .pdu _ _
    · cases hu
      exact .pdu _ _
  | returnOk => cases h; exact .ret _
  | returnRejected => cases h; exact .ret _
  | returnReceived buf cnt iq => cases h; exact .ret _

/-- All that HOST's turn can do when it completes. -/
theorem hostStep_effect {s t : State} (h : hostStep s = .next t) : HostEffect s t := by
  unfold hostStep at h
  split at h
  · exact runStmt_effect h
  · cases h; exact .idle

/-- All that RADIO's turn can do when it completes (R191). -/
inductive RadioEffect (s : State) : State → Prop where
  | idle : RadioEffect s s
  | rampUpTx (hp : s.powered = true) (h : s.radioState = .txru) : RadioEffect s (s.rampUp .txidle)
  | rampUpRx (hp : s.powered = true) (h : s.radioState = .rxru) : RadioEffect s (s.rampUp .rxidle)
  | disable (hp : s.powered = true) (h : s.radioState = .txdisable ∨ s.radioState = .rxdisable) :
      RadioEffect s s.disableStep
  | txAddr (hp : s.powered = true) (h : s.radioState = .tx) (hf : s.phase = .addr) : RadioEffect s s.txAddrStep
  | txPayload (hp : s.powered = true) (h : s.radioState = .tx) (hf : s.phase = .payload)
      (hl : (s.ramByte (s.packetPtr + 1)).toNat ≤ s.maxlen) : RadioEffect s s.txPayloadNext
  | txCrc (hp : s.powered = true) (h : s.radioState = .tx) (hf : s.phase = .crc) : RadioEffect s s.txCrcStep
  | txCte (hp : s.powered = true) (h : s.radioState = .tx) (hf : s.phase = .cte) : RadioEffect s s.txCteStep
  | rxPayload (hp : s.powered = true) (h : s.radioState = .rx) (hf : s.phase = .payload) :
      RadioEffect s s.rxPayloadStep
  | rxCrc (hp : s.powered = true) (h : s.radioState = .rx) (hf : s.phase = .crc) : RadioEffect s s.rxCrcStep
  | rxCte (hp : s.powered = true) (h : s.radioState = .rx) (hf : s.phase = .cte) : RadioEffect s s.rxCteStep

/-- R191: RADIO's turn is one row of the step table. -/
theorem radioStep_effect {s t : State} (h : radioStep s = .next t) : RadioEffect s t := by
  unfold radioStep at h
  split at h
  · rename_i hp
    split at h
    · cases h; exact .idle
    · cases h; exact .rampUpTx hp ‹_›
    · cases h; exact .rampUpRx hp ‹_›
    · cases h; exact .idle
    · cases h; exact .idle
    · rename_i hr
      unfold State.txStep at h
      split at h
      · cases h; exact .txAddr hp hr ‹_›
      · unfold State.txPayloadStep at h
        split at h <;> cases h
        exact .txPayload hp hr ‹_› (by omega)
      · cases h; exact .txCrc hp hr ‹_›
      · cases h; exact .txCte hp hr ‹_›
      · cases h; exact .idle
      · cases h; exact .idle
    · rename_i hr
      unfold State.rxStep at h
      split at h
      · cases h; exact .idle
      · cases h; exact .rxPayload hp hr ‹_›
      · cases h; exact .rxCrc hp hr ‹_›
      · cases h; exact .rxCte hp hr ‹_›
      · cases h; exact .idle
      · cases h; exact .idle
    · cases h; exact .disable hp (.inl ‹_›)
    · cases h; exact .disable hp (.inr ‹_›)
  · cases h; exact .idle

/-- All that AIR's turn can do (R137). -/
inductive AirEffect (s : State) : State → Prop where
  | silent : AirEffect s s
  | unheard : AirEffect s { s with airIn := s.airIn.tail }
  | deliver (f : AirFrame) (h : s.hears f = true) : AirEffect s { s.rxDeliver f with airIn := s.airIn.tail }

/-- R137: AIR's turn is silence, a transmission nobody hears, or a frame delivered. -/
theorem airStep_effect (s : State) : AirEffect s (airStep s) := by
  unfold airStep
  split
  · exact .silent
  · split
    · exact .deliver _ ‹_›
    · exact .unheard

end Sys2Proof.Machine
end

