-- ==== Sys2Proof/Laws/Steps.lean ====
section
/-!
SUPPORT. One lemma per field for each step of the framer and of the ramp-up (R134, R137 to R139, R189, R190, R242).
-/

namespace Sys2Proof.Machine

/-- The events that carry no shortcut leave `radio_state` (R176). -/
theorem State.signal_radioState_of_plain (s : State) (e : Event) (h1 : e ≠ .ready) (h2 : e ≠ .phyend) :
    (s.signal e).radioState = s.radioState := by
  rw [s.signal_plain e h1 h2]; rfl

/-! ### `State.txAddrStep` -/

@[simp] theorem State.txAddrStep_memMap (s : State) : (s.txAddrStep).memMap = s.memMap := rfl
@[simp] theorem State.txAddrStep_hfState (s : State) : (s.txAddrStep).hfState = s.hfState := rfl
@[simp] theorem State.txAddrStep_evHfclkStarted (s : State) : (s.txAddrStep).evHfclkStarted = s.evHfclkStarted := rfl
@[simp] theorem State.txAddrStep_powered (s : State) : (s.txAddrStep).powered = s.powered := rfl
@[simp] theorem State.txAddrStep_cfg (s : State) : (s.txAddrStep).cfg = s.cfg := rfl
@[simp] theorem State.txAddrStep_written (s : State) : (s.txAddrStep).written = s.written := rfl
@[simp] theorem State.txAddrStep_events (s : State) : (s.txAddrStep).events = s.events.set .address true := rfl
@[simp] theorem State.txAddrStep_intMask (s : State) : (s.txAddrStep).intMask = s.intMask := rfl
@[simp] theorem State.txAddrStep_crcStatus (s : State) : (s.txAddrStep).crcStatus = s.crcStatus := rfl
@[simp] theorem State.txAddrStep_rxMatch (s : State) : (s.txAddrStep).rxMatch = s.rxMatch := rfl
@[simp] theorem State.txAddrStep_rxCrc (s : State) : (s.txAddrStep).rxCrc = s.rxCrc := rfl
@[simp] theorem State.txAddrStep_amount (s : State) : (s.txAddrStep).amount = s.amount := rfl
@[simp] theorem State.txAddrStep_radioState (s : State) : (s.txAddrStep).radioState = s.radioState := rfl
@[simp] theorem State.txAddrStep_phase (s : State) : (s.txAddrStep).phase = .payload := rfl
@[simp] theorem State.txAddrStep_session (s : State) : (s.txAddrStep).session = s.session := rfl
@[simp] theorem State.txAddrStep_dmaRegions (s : State) : (s.txAddrStep).dmaRegions = s.dmaRegions := rfl
@[simp] theorem State.txAddrStep_crcReg (s : State) : (s.txAddrStep).crcReg = s.crcInit := rfl
@[simp] theorem State.txAddrStep_whiteLfsr (s : State) : (s.txAddrStep).whiteLfsr = whitenInit s.whiteIv := rfl
@[simp] theorem State.txAddrStep_curLen (s : State) : (s.txAddrStep).curLen = s.curLen := rfl
@[simp] theorem State.txAddrStep_curS0 (s : State) : (s.txAddrStep).curS0 = s.curS0 := rfl
@[simp] theorem State.txAddrStep_rxFrame (s : State) : (s.txAddrStep).rxFrame = s.rxFrame := rfl
@[simp] theorem State.txAddrStep_rxSeed (s : State) : (s.txAddrStep).rxSeed = s.rxSeed := rfl
@[simp] theorem State.txAddrStep_txBits (s : State) :
    (s.txAddrStep).txBits = preamble s.accessAddress ++ bitsLsb32 s.accessAddress := rfl
@[simp] theorem State.txAddrStep_antPattern (s : State) : (s.txAddrStep).antPattern = s.antPattern := rfl
@[simp] theorem State.txAddrStep_ram (s : State) : (s.txAddrStep).ram = s.ram := rfl
@[simp] theorem State.txAddrStep_script (s : State) : (s.txAddrStep).script = s.script := rfl
@[simp] theorem State.txAddrStep_hpc (s : State) : (s.txAddrStep).hpc = s.hpc := rfl
@[simp] theorem State.txAddrStep_busData (s : State) : (s.txAddrStep).busData = s.busData := rfl
@[simp] theorem State.txAddrStep_wordVars (s : State) : (s.txAddrStep).wordVars = s.wordVars := rfl
@[simp] theorem State.txAddrStep_byteVars (s : State) : (s.txAddrStep).byteVars = s.byteVars := rfl
@[simp] theorem State.txAddrStep_filterAddr (s : State) : (s.txAddrStep).filterAddr = s.filterAddr := rfl
@[simp] theorem State.txAddrStep_pduResult (s : State) : (s.txAddrStep).pduResult = s.pduResult := rfl
@[simp] theorem State.txAddrStep_result (s : State) : (s.txAddrStep).result = s.result := rfl
@[simp] theorem State.txAddrStep_airIn (s : State) : (s.txAddrStep).airIn = s.airIn := rfl
@[simp] theorem State.txAddrStep_airLog (s : State) : (s.txAddrStep).airLog = s.airLog := rfl
@[simp] theorem State.txAddrStep_turns (s : State) : (s.txAddrStep).turns = s.turns := rfl
@[simp] theorem State.txAddrStep_tick (s : State) : (s.txAddrStep).tick = s.tick := rfl
@[simp] theorem State.txAddrStep_fault (s : State) : (s.txAddrStep).fault = s.fault := rfl
@[simp] theorem State.txAddrStep_refused (s : State) : (s.txAddrStep).refused = s.refused := rfl

/-! ### `State.txPayloadNext` -/

@[simp] theorem State.txPayloadNext_memMap (s : State) : (s.txPayloadNext).memMap = s.memMap := rfl
@[simp] theorem State.txPayloadNext_hfState (s : State) : (s.txPayloadNext).hfState = s.hfState := rfl
@[simp] theorem State.txPayloadNext_evHfclkStarted (s : State) :
    (s.txPayloadNext).evHfclkStarted = s.evHfclkStarted := rfl
@[simp] theorem State.txPayloadNext_powered (s : State) : (s.txPayloadNext).powered = s.powered := rfl
@[simp] theorem State.txPayloadNext_cfg (s : State) : (s.txPayloadNext).cfg = s.cfg := rfl
@[simp] theorem State.txPayloadNext_written (s : State) : (s.txPayloadNext).written = s.written := rfl
@[simp] theorem State.txPayloadNext_events (s : State) : (s.txPayloadNext).events = s.events.set .payload true := rfl
@[simp] theorem State.txPayloadNext_intMask (s : State) : (s.txPayloadNext).intMask = s.intMask := rfl
@[simp] theorem State.txPayloadNext_crcStatus (s : State) : (s.txPayloadNext).crcStatus = s.crcStatus := rfl
@[simp] theorem State.txPayloadNext_rxMatch (s : State) : (s.txPayloadNext).rxMatch = s.rxMatch := rfl
@[simp] theorem State.txPayloadNext_rxCrc (s : State) : (s.txPayloadNext).rxCrc = s.rxCrc := rfl
@[simp] theorem State.txPayloadNext_amount (s : State) : (s.txPayloadNext).amount = s.amount := rfl
@[simp] theorem State.txPayloadNext_radioState (s : State) : (s.txPayloadNext).radioState = s.radioState := rfl
@[simp] theorem State.txPayloadNext_phase (s : State) : (s.txPayloadNext).phase = .crc := rfl
@[simp] theorem State.txPayloadNext_session (s : State) : (s.txPayloadNext).session = s.session := rfl
@[simp] theorem State.txPayloadNext_dmaRegions (s : State) : (s.txPayloadNext).dmaRegions = s.dmaRegions := rfl
@[simp] theorem State.txPayloadNext_crcReg (s : State) :
    (s.txPayloadNext).crcReg = crc24 s.crcReg s.crcPoly (bitsLsb s.txPacket) := rfl
@[simp] theorem State.txPayloadNext_whiteLfsr (s : State) :
    (s.txPayloadNext).whiteLfsr = whitenAfter s.whiteen s.whiteLfsr (bitsLsb s.txPacket).length := rfl
@[simp] theorem State.txPayloadNext_curLen (s : State) : (s.txPayloadNext).curLen = s.ramByte (s.packetPtr + 1) := rfl
@[simp] theorem State.txPayloadNext_curS0 (s : State) : (s.txPayloadNext).curS0 = s.ramByte s.packetPtr := rfl
@[simp] theorem State.txPayloadNext_rxFrame (s : State) : (s.txPayloadNext).rxFrame = s.rxFrame := rfl
@[simp] theorem State.txPayloadNext_rxSeed (s : State) : (s.txPayloadNext).rxSeed = s.rxSeed := rfl
@[simp] theorem State.txPayloadNext_txBits (s : State) :
    (s.txPayloadNext).txBits = s.txBits ++ whitenIf s.whiteen s.whiteLfsr (bitsLsb s.txPacket) := rfl
@[simp] theorem State.txPayloadNext_antPattern (s : State) : (s.txPayloadNext).antPattern = s.antPattern := rfl
@[simp] theorem State.txPayloadNext_ram (s : State) : (s.txPayloadNext).ram = s.ram := rfl
@[simp] theorem State.txPayloadNext_script (s : State) : (s.txPayloadNext).script = s.script := rfl
@[simp] theorem State.txPayloadNext_hpc (s : State) : (s.txPayloadNext).hpc = s.hpc := rfl
@[simp] theorem State.txPayloadNext_busData (s : State) : (s.txPayloadNext).busData = s.busData := rfl
@[simp] theorem State.txPayloadNext_wordVars (s : State) : (s.txPayloadNext).wordVars = s.wordVars := rfl
@[simp] theorem State.txPayloadNext_byteVars (s : State) : (s.txPayloadNext).byteVars = s.byteVars := rfl
@[simp] theorem State.txPayloadNext_filterAddr (s : State) : (s.txPayloadNext).filterAddr = s.filterAddr := rfl
@[simp] theorem State.txPayloadNext_pduResult (s : State) : (s.txPayloadNext).pduResult = s.pduResult := rfl
@[simp] theorem State.txPayloadNext_result (s : State) : (s.txPayloadNext).result = s.result := rfl
@[simp] theorem State.txPayloadNext_airIn (s : State) : (s.txPayloadNext).airIn = s.airIn := rfl
@[simp] theorem State.txPayloadNext_airLog (s : State) : (s.txPayloadNext).airLog = s.airLog := rfl
@[simp] theorem State.txPayloadNext_turns (s : State) : (s.txPayloadNext).turns = s.turns := rfl
@[simp] theorem State.txPayloadNext_tick (s : State) : (s.txPayloadNext).tick = s.tick := rfl
@[simp] theorem State.txPayloadNext_fault (s : State) : (s.txPayloadNext).fault = s.fault := rfl
@[simp] theorem State.txPayloadNext_refused (s : State) : (s.txPayloadNext).refused = s.refused := rfl

/-! ### `State.txCrcStep` -/

@[simp] theorem State.txCrcStep_memMap (s : State) : (s.txCrcStep).memMap = s.memMap := rfl
@[simp] theorem State.txCrcStep_hfState (s : State) : (s.txCrcStep).hfState = s.hfState := rfl
@[simp] theorem State.txCrcStep_evHfclkStarted (s : State) : (s.txCrcStep).evHfclkStarted = s.evHfclkStarted := rfl
@[simp] theorem State.txCrcStep_powered (s : State) : (s.txCrcStep).powered = s.powered := rfl
@[simp] theorem State.txCrcStep_cfg (s : State) : (s.txCrcStep).cfg = s.cfg := rfl
@[simp] theorem State.txCrcStep_written (s : State) : (s.txCrcStep).written = s.written := rfl
@[simp] theorem State.txCrcStep_events (s : State) : (s.txCrcStep).events = s.events.set .end_ true := rfl
@[simp] theorem State.txCrcStep_intMask (s : State) : (s.txCrcStep).intMask = s.intMask := rfl
@[simp] theorem State.txCrcStep_crcStatus (s : State) : (s.txCrcStep).crcStatus = s.crcStatus := rfl
@[simp] theorem State.txCrcStep_rxMatch (s : State) : (s.txCrcStep).rxMatch = s.rxMatch := rfl
@[simp] theorem State.txCrcStep_rxCrc (s : State) : (s.txCrcStep).rxCrc = s.rxCrc := rfl
@[simp] theorem State.txCrcStep_amount (s : State) : (s.txCrcStep).amount = s.amount := rfl
@[simp] theorem State.txCrcStep_radioState (s : State) : (s.txCrcStep).radioState = s.radioState := rfl
@[simp] theorem State.txCrcStep_phase (s : State) : (s.txCrcStep).phase = .cte := rfl
@[simp] theorem State.txCrcStep_session (s : State) : (s.txCrcStep).session = s.session := rfl
@[simp] theorem State.txCrcStep_dmaRegions (s : State) : (s.txCrcStep).dmaRegions = s.dmaRegions := rfl
@[simp] theorem State.txCrcStep_crcReg (s : State) : (s.txCrcStep).crcReg = s.crcReg := rfl
@[simp] theorem State.txCrcStep_whiteLfsr (s : State) :
    (s.txCrcStep).whiteLfsr = whitenAfter s.whiteen s.whiteLfsr 24 := rfl
@[simp] theorem State.txCrcStep_curLen (s : State) : (s.txCrcStep).curLen = s.curLen := rfl
@[simp] theorem State.txCrcStep_curS0 (s : State) : (s.txCrcStep).curS0 = s.curS0 := rfl
@[simp] theorem State.txCrcStep_rxFrame (s : State) : (s.txCrcStep).rxFrame = s.rxFrame := rfl
@[simp] theorem State.txCrcStep_rxSeed (s : State) : (s.txCrcStep).rxSeed = s.rxSeed := rfl
@[simp] theorem State.txCrcStep_txBits (s : State) :
    (s.txCrcStep).txBits = s.txBits ++ whitenIf s.whiteen s.whiteLfsr (crcBits s.crcReg) := rfl
@[simp] theorem State.txCrcStep_antPattern (s : State) : (s.txCrcStep).antPattern = s.antPattern := rfl
@[simp] theorem State.txCrcStep_ram (s : State) : (s.txCrcStep).ram = s.ram := rfl
@[simp] theorem State.txCrcStep_script (s : State) : (s.txCrcStep).script = s.script := rfl
@[simp] theorem State.txCrcStep_hpc (s : State) : (s.txCrcStep).hpc = s.hpc := rfl
@[simp] theorem State.txCrcStep_busData (s : State) : (s.txCrcStep).busData = s.busData := rfl
@[simp] theorem State.txCrcStep_wordVars (s : State) : (s.txCrcStep).wordVars = s.wordVars := rfl
@[simp] theorem State.txCrcStep_byteVars (s : State) : (s.txCrcStep).byteVars = s.byteVars := rfl
@[simp] theorem State.txCrcStep_filterAddr (s : State) : (s.txCrcStep).filterAddr = s.filterAddr := rfl
@[simp] theorem State.txCrcStep_pduResult (s : State) : (s.txCrcStep).pduResult = s.pduResult := rfl
@[simp] theorem State.txCrcStep_result (s : State) : (s.txCrcStep).result = s.result := rfl
@[simp] theorem State.txCrcStep_airIn (s : State) : (s.txCrcStep).airIn = s.airIn := rfl
@[simp] theorem State.txCrcStep_airLog (s : State) : (s.txCrcStep).airLog = s.airLog := rfl
@[simp] theorem State.txCrcStep_turns (s : State) : (s.txCrcStep).turns = s.turns := rfl
@[simp] theorem State.txCrcStep_tick (s : State) : (s.txCrcStep).tick = s.tick := rfl
@[simp] theorem State.txCrcStep_fault (s : State) : (s.txCrcStep).fault = s.fault := rfl
@[simp] theorem State.txCrcStep_refused (s : State) : (s.txCrcStep).refused = s.refused := rfl

/-! ### `State.txCteStep` -/

@[simp] theorem State.txCteStep_memMap (s : State) : (s.txCteStep).memMap = s.memMap := by simp [State.txCteStep]
@[simp] theorem State.txCteStep_hfState (s : State) : (s.txCteStep).hfState = s.hfState := by simp [State.txCteStep]
@[simp] theorem State.txCteStep_evHfclkStarted (s : State) :
    (s.txCteStep).evHfclkStarted = s.evHfclkStarted := by simp [State.txCteStep]
@[simp] theorem State.txCteStep_powered (s : State) : (s.txCteStep).powered = s.powered := by simp [State.txCteStep]
@[simp] theorem State.txCteStep_cfg (s : State) : (s.txCteStep).cfg = s.cfg := by simp [State.txCteStep]
@[simp] theorem State.txCteStep_written (s : State) : (s.txCteStep).written = s.written := by simp [State.txCteStep]
@[simp] theorem State.txCteStep_events (s : State) :
    (s.txCteStep).events = s.events.set .phyend true := by simp [State.txCteStep]
@[simp] theorem State.txCteStep_intMask (s : State) : (s.txCteStep).intMask = s.intMask := by simp [State.txCteStep]
@[simp] theorem State.txCteStep_crcStatus (s : State) :
    (s.txCteStep).crcStatus = s.crcStatus := by simp [State.txCteStep]
@[simp] theorem State.txCteStep_rxMatch (s : State) : (s.txCteStep).rxMatch = s.rxMatch := by simp [State.txCteStep]
@[simp] theorem State.txCteStep_rxCrc (s : State) : (s.txCteStep).rxCrc = s.rxCrc := by simp [State.txCteStep]
@[simp] theorem State.txCteStep_amount (s : State) : (s.txCteStep).amount = s.amount := by simp [State.txCteStep]
@[simp] theorem State.txCteStep_phase (s : State) : (s.txCteStep).phase = .done := by simp [State.txCteStep]
@[simp] theorem State.txCteStep_session (s : State) : (s.txCteStep).session = s.session := by simp [State.txCteStep]
@[simp] theorem State.txCteStep_dmaRegions (s : State) :
    (s.txCteStep).dmaRegions = s.dmaRegions := by simp [State.txCteStep]
@[simp] theorem State.txCteStep_crcReg (s : State) : (s.txCteStep).crcReg = s.crcReg := by simp [State.txCteStep]
@[simp] theorem State.txCteStep_whiteLfsr (s : State) :
    (s.txCteStep).whiteLfsr = s.whiteLfsr := by simp [State.txCteStep]
@[simp] theorem State.txCteStep_curLen (s : State) : (s.txCteStep).curLen = s.curLen := by simp [State.txCteStep]
@[simp] theorem State.txCteStep_curS0 (s : State) : (s.txCteStep).curS0 = s.curS0 := by simp [State.txCteStep]
@[simp] theorem State.txCteStep_rxFrame (s : State) : (s.txCteStep).rxFrame = s.rxFrame := by simp [State.txCteStep]
@[simp] theorem State.txCteStep_rxSeed (s : State) : (s.txCteStep).rxSeed = s.rxSeed := by simp [State.txCteStep]
@[simp] theorem State.txCteStep_txBits (s : State) : (s.txCteStep).txBits = s.txBits := by simp [State.txCteStep]
@[simp] theorem State.txCteStep_antPattern (s : State) :
    (s.txCteStep).antPattern = s.antPattern := by simp [State.txCteStep]
@[simp] theorem State.txCteStep_ram (s : State) : (s.txCteStep).ram = s.ram := by simp [State.txCteStep]
@[simp] theorem State.txCteStep_script (s : State) : (s.txCteStep).script = s.script := by simp [State.txCteStep]
@[simp] theorem State.txCteStep_hpc (s : State) : (s.txCteStep).hpc = s.hpc := by simp [State.txCteStep]
@[simp] theorem State.txCteStep_busData (s : State) : (s.txCteStep).busData = s.busData := by simp [State.txCteStep]
@[simp] theorem State.txCteStep_wordVars (s : State) :
    (s.txCteStep).wordVars = s.wordVars := by simp [State.txCteStep]
@[simp] theorem State.txCteStep_byteVars (s : State) :
    (s.txCteStep).byteVars = s.byteVars := by simp [State.txCteStep]
@[simp] theorem State.txCteStep_filterAddr (s : State) :
    (s.txCteStep).filterAddr = s.filterAddr := by simp [State.txCteStep]
@[simp] theorem State.txCteStep_pduResult (s : State) :
    (s.txCteStep).pduResult = s.pduResult := by simp [State.txCteStep]
@[simp] theorem State.txCteStep_result (s : State) : (s.txCteStep).result = s.result := by simp [State.txCteStep]
@[simp] theorem State.txCteStep_airIn (s : State) : (s.txCteStep).airIn = s.airIn := by simp [State.txCteStep]
@[simp] theorem State.txCteStep_airLog (s : State) :
    (s.txCteStep).airLog = s.airLog ++ [s.airRecord] := by simp [State.txCteStep]
@[simp] theorem State.txCteStep_turns (s : State) : (s.txCteStep).turns = s.turns := by simp [State.txCteStep]
@[simp] theorem State.txCteStep_tick (s : State) : (s.txCteStep).tick = s.tick := by simp [State.txCteStep]
@[simp] theorem State.txCteStep_fault (s : State) : (s.txCteStep).fault = s.fault := by simp [State.txCteStep]
@[simp] theorem State.txCteStep_refused (s : State) : (s.txCteStep).refused = s.refused := by simp [State.txCteStep]

/-! ### `State.rxDeliver` -/

@[simp] theorem State.rxDeliver_memMap (s : State) (f : AirFrame) : (s.rxDeliver f).memMap = s.memMap := rfl
@[simp] theorem State.rxDeliver_hfState (s : State) (f : AirFrame) : (s.rxDeliver f).hfState = s.hfState := rfl
@[simp] theorem State.rxDeliver_evHfclkStarted (s : State) (f : AirFrame) :
    (s.rxDeliver f).evHfclkStarted = s.evHfclkStarted := rfl
@[simp] theorem State.rxDeliver_powered (s : State) (f : AirFrame) : (s.rxDeliver f).powered = s.powered := rfl
@[simp] theorem State.rxDeliver_cfg (s : State) (f : AirFrame) : (s.rxDeliver f).cfg = s.cfg := rfl
@[simp] theorem State.rxDeliver_written (s : State) (f : AirFrame) : (s.rxDeliver f).written = s.written := rfl
@[simp] theorem State.rxDeliver_events (s : State) (f : AirFrame) :
    (s.rxDeliver f).events = s.events.set .address true := rfl
@[simp] theorem State.rxDeliver_intMask (s : State) (f : AirFrame) : (s.rxDeliver f).intMask = s.intMask := rfl
@[simp] theorem State.rxDeliver_crcStatus (s : State) (f : AirFrame) : (s.rxDeliver f).crcStatus = s.crcStatus := rfl
@[simp] theorem State.rxDeliver_rxMatch (s : State) (f : AirFrame) : (s.rxDeliver f).rxMatch = 0#3 := rfl
@[simp] theorem State.rxDeliver_rxCrc (s : State) (f : AirFrame) : (s.rxDeliver f).rxCrc = s.rxCrc := rfl
@[simp] theorem State.rxDeliver_amount (s : State) (f : AirFrame) : (s.rxDeliver f).amount = s.amount := rfl
@[simp] theorem State.rxDeliver_radioState (s : State) (f : AirFrame) :
    (s.rxDeliver f).radioState = s.radioState := rfl
@[simp] theorem State.rxDeliver_phase (s : State) (f : AirFrame) : (s.rxDeliver f).phase = .payload := rfl
@[simp] theorem State.rxDeliver_session (s : State) (f : AirFrame) : (s.rxDeliver f).session = s.session := rfl
@[simp] theorem State.rxDeliver_dmaRegions (s : State) (f : AirFrame) :
    (s.rxDeliver f).dmaRegions = s.dmaRegions := rfl
@[simp] theorem State.rxDeliver_crcReg (s : State) (f : AirFrame) : (s.rxDeliver f).crcReg = s.crcInit := rfl
@[simp] theorem State.rxDeliver_whiteLfsr (s : State) (f : AirFrame) :
    (s.rxDeliver f).whiteLfsr = whitenInit s.whiteIv := rfl
@[simp] theorem State.rxDeliver_curLen (s : State) (f : AirFrame) : (s.rxDeliver f).curLen = s.curLen := rfl
@[simp] theorem State.rxDeliver_curS0 (s : State) (f : AirFrame) : (s.rxDeliver f).curS0 = s.curS0 := rfl
@[simp] theorem State.rxDeliver_rxFrame (s : State) (f : AirFrame) : (s.rxDeliver f).rxFrame = f := rfl
@[simp] theorem State.rxDeliver_rxSeed (s : State) (f : AirFrame) : (s.rxDeliver f).rxSeed = s.tick := rfl
@[simp] theorem State.rxDeliver_txBits (s : State) (f : AirFrame) : (s.rxDeliver f).txBits = s.txBits := rfl
@[simp] theorem State.rxDeliver_antPattern (s : State) (f : AirFrame) :
    (s.rxDeliver f).antPattern = s.antPattern := rfl
@[simp] theorem State.rxDeliver_ram (s : State) (f : AirFrame) : (s.rxDeliver f).ram = s.ram := rfl
@[simp] theorem State.rxDeliver_script (s : State) (f : AirFrame) : (s.rxDeliver f).script = s.script := rfl
@[simp] theorem State.rxDeliver_hpc (s : State) (f : AirFrame) : (s.rxDeliver f).hpc = s.hpc := rfl
@[simp] theorem State.rxDeliver_busData (s : State) (f : AirFrame) : (s.rxDeliver f).busData = s.busData := rfl
@[simp] theorem State.rxDeliver_wordVars (s : State) (f : AirFrame) : (s.rxDeliver f).wordVars = s.wordVars := rfl
@[simp] theorem State.rxDeliver_byteVars (s : State) (f : AirFrame) : (s.rxDeliver f).byteVars = s.byteVars := rfl
@[simp] theorem State.rxDeliver_filterAddr (s : State) (f : AirFrame) :
    (s.rxDeliver f).filterAddr = s.filterAddr := rfl
@[simp] theorem State.rxDeliver_pduResult (s : State) (f : AirFrame) : (s.rxDeliver f).pduResult = s.pduResult := rfl
@[simp] theorem State.rxDeliver_result (s : State) (f : AirFrame) : (s.rxDeliver f).result = s.result := rfl
@[simp] theorem State.rxDeliver_airIn (s : State) (f : AirFrame) : (s.rxDeliver f).airIn = s.airIn := rfl
@[simp] theorem State.rxDeliver_airLog (s : State) (f : AirFrame) : (s.rxDeliver f).airLog = s.airLog := rfl
@[simp] theorem State.rxDeliver_turns (s : State) (f : AirFrame) : (s.rxDeliver f).turns = s.turns := rfl
@[simp] theorem State.rxDeliver_tick (s : State) (f : AirFrame) : (s.rxDeliver f).tick = s.tick := rfl
@[simp] theorem State.rxDeliver_fault (s : State) (f : AirFrame) : (s.rxDeliver f).fault = s.fault := rfl
@[simp] theorem State.rxDeliver_refused (s : State) (f : AirFrame) : (s.rxDeliver f).refused = s.refused := rfl

/-! ### `State.rxPayloadStep` -/

@[simp] theorem State.rxPayloadStep_memMap (s : State) : (s.rxPayloadStep).memMap = s.memMap := rfl
@[simp] theorem State.rxPayloadStep_hfState (s : State) : (s.rxPayloadStep).hfState = s.hfState := rfl
@[simp] theorem State.rxPayloadStep_evHfclkStarted (s : State) :
    (s.rxPayloadStep).evHfclkStarted = s.evHfclkStarted := rfl
@[simp] theorem State.rxPayloadStep_powered (s : State) : (s.rxPayloadStep).powered = s.powered := rfl
@[simp] theorem State.rxPayloadStep_cfg (s : State) : (s.rxPayloadStep).cfg = s.cfg := rfl
@[simp] theorem State.rxPayloadStep_written (s : State) : (s.rxPayloadStep).written = s.written := rfl
@[simp] theorem State.rxPayloadStep_events (s : State) : (s.rxPayloadStep).events = s.events.set .payload true := rfl
@[simp] theorem State.rxPayloadStep_intMask (s : State) : (s.rxPayloadStep).intMask = s.intMask := rfl
@[simp] theorem State.rxPayloadStep_crcStatus (s : State) : (s.rxPayloadStep).crcStatus = s.crcStatus := rfl
@[simp] theorem State.rxPayloadStep_rxMatch (s : State) : (s.rxPayloadStep).rxMatch = s.rxMatch := rfl
@[simp] theorem State.rxPayloadStep_rxCrc (s : State) : (s.rxPayloadStep).rxCrc = s.rxCrc := rfl
@[simp] theorem State.rxPayloadStep_amount (s : State) : (s.rxPayloadStep).amount = s.amount := rfl
@[simp] theorem State.rxPayloadStep_radioState (s : State) : (s.rxPayloadStep).radioState = s.radioState := rfl
@[simp] theorem State.rxPayloadStep_phase (s : State) : (s.rxPayloadStep).phase = .crc := rfl
@[simp] theorem State.rxPayloadStep_session (s : State) : (s.rxPayloadStep).session = s.session := rfl
@[simp] theorem State.rxPayloadStep_dmaRegions (s : State) : (s.rxPayloadStep).dmaRegions = s.dmaRegions := rfl
@[simp] theorem State.rxPayloadStep_crcReg (s : State) :
    (s.rxPayloadStep).crcReg = crc24 s.crcReg s.crcPoly (s.rxPlain (pduBits s.rxLen)) := rfl
@[simp] theorem State.rxPayloadStep_whiteLfsr (s : State) :
    (s.rxPayloadStep).whiteLfsr = whitenAfter s.whiteen s.whiteLfsr (pduBits s.rxLen) := rfl
@[simp] theorem State.rxPayloadStep_curLen (s : State) : (s.rxPayloadStep).curLen = s.rxLen := rfl
@[simp] theorem State.rxPayloadStep_curS0 (s : State) : (s.rxPayloadStep).curS0 = s.rxS0 := rfl
@[simp] theorem State.rxPayloadStep_rxFrame (s : State) : (s.rxPayloadStep).rxFrame = s.rxFrame := rfl
@[simp] theorem State.rxPayloadStep_rxSeed (s : State) : (s.rxPayloadStep).rxSeed = s.rxSeed := rfl
@[simp] theorem State.rxPayloadStep_txBits (s : State) : (s.rxPayloadStep).txBits = s.txBits := rfl
@[simp] theorem State.rxPayloadStep_antPattern (s : State) : (s.rxPayloadStep).antPattern = s.antPattern := rfl
@[simp] theorem State.rxPayloadStep_ram (s : State) :
    (s.rxPayloadStep).ram = writeBytes s.ram s.packetPtr s.rxStored := rfl
@[simp] theorem State.rxPayloadStep_script (s : State) : (s.rxPayloadStep).script = s.script := rfl
@[simp] theorem State.rxPayloadStep_hpc (s : State) : (s.rxPayloadStep).hpc = s.hpc := rfl
@[simp] theorem State.rxPayloadStep_busData (s : State) : (s.rxPayloadStep).busData = s.busData := rfl
@[simp] theorem State.rxPayloadStep_wordVars (s : State) : (s.rxPayloadStep).wordVars = s.wordVars := rfl
@[simp] theorem State.rxPayloadStep_byteVars (s : State) : (s.rxPayloadStep).byteVars = s.byteVars := rfl
@[simp] theorem State.rxPayloadStep_filterAddr (s : State) : (s.rxPayloadStep).filterAddr = s.filterAddr := rfl
@[simp] theorem State.rxPayloadStep_pduResult (s : State) : (s.rxPayloadStep).pduResult = s.pduResult := rfl
@[simp] theorem State.rxPayloadStep_result (s : State) : (s.rxPayloadStep).result = s.result := rfl
@[simp] theorem State.rxPayloadStep_airIn (s : State) : (s.rxPayloadStep).airIn = s.airIn := rfl
@[simp] theorem State.rxPayloadStep_airLog (s : State) : (s.rxPayloadStep).airLog = s.airLog := rfl
@[simp] theorem State.rxPayloadStep_turns (s : State) : (s.rxPayloadStep).turns = s.turns := rfl
@[simp] theorem State.rxPayloadStep_tick (s : State) : (s.rxPayloadStep).tick = s.tick := rfl
@[simp] theorem State.rxPayloadStep_fault (s : State) : (s.rxPayloadStep).fault = s.fault := rfl
@[simp] theorem State.rxPayloadStep_refused (s : State) : (s.rxPayloadStep).refused = s.refused := rfl

/-! ### `State.rxCrcStep` -/

@[simp] theorem State.rxCrcStep_memMap (s : State) : (s.rxCrcStep).memMap = s.memMap := by simp [State.rxCrcStep]
@[simp] theorem State.rxCrcStep_hfState (s : State) : (s.rxCrcStep).hfState = s.hfState := by simp [State.rxCrcStep]
@[simp] theorem State.rxCrcStep_evHfclkStarted (s : State) :
    (s.rxCrcStep).evHfclkStarted = s.evHfclkStarted := by simp [State.rxCrcStep]
@[simp] theorem State.rxCrcStep_powered (s : State) : (s.rxCrcStep).powered = s.powered := by simp [State.rxCrcStep]
@[simp] theorem State.rxCrcStep_cfg (s : State) : (s.rxCrcStep).cfg = s.cfg := by simp [State.rxCrcStep]
@[simp] theorem State.rxCrcStep_written (s : State) : (s.rxCrcStep).written = s.written := by simp [State.rxCrcStep]
@[simp] theorem State.rxCrcStep_events (s : State) :
    (s.rxCrcStep).events =
      (s.events.set .end_ true).set (if s.rxCrcOk then .crcok else .crcerror) true := by simp [State.rxCrcStep]
@[simp] theorem State.rxCrcStep_intMask (s : State) : (s.rxCrcStep).intMask = s.intMask := by simp [State.rxCrcStep]
@[simp] theorem State.rxCrcStep_crcStatus (s : State) :
    (s.rxCrcStep).crcStatus = s.rxCrcOk := by simp [State.rxCrcStep]
@[simp] theorem State.rxCrcStep_rxMatch (s : State) : (s.rxCrcStep).rxMatch = s.rxMatch := by simp [State.rxCrcStep]
@[simp] theorem State.rxCrcStep_rxCrc (s : State) : (s.rxCrcStep).rxCrc = s.rxCrcValue := by simp [State.rxCrcStep]
@[simp] theorem State.rxCrcStep_amount (s : State) : (s.rxCrcStep).amount = s.amount := by simp [State.rxCrcStep]
@[simp] theorem State.rxCrcStep_radioState (s : State) : s.rxCrcStep.radioState = s.radioState := by
  unfold State.rxCrcStep
  rw [State.signal_radioState_of_plain _ _ (by split <;> simp) (by split <;> simp)]
  rfl
@[simp] theorem State.rxCrcStep_phase (s : State) : (s.rxCrcStep).phase = .cte := by simp [State.rxCrcStep]
@[simp] theorem State.rxCrcStep_session (s : State) : (s.rxCrcStep).session = s.session := by simp [State.rxCrcStep]
@[simp] theorem State.rxCrcStep_dmaRegions (s : State) :
    (s.rxCrcStep).dmaRegions = s.dmaRegions := by simp [State.rxCrcStep]
@[simp] theorem State.rxCrcStep_crcReg (s : State) : (s.rxCrcStep).crcReg = s.crcReg := by simp [State.rxCrcStep]
@[simp] theorem State.rxCrcStep_whiteLfsr (s : State) :
    (s.rxCrcStep).whiteLfsr = whitenAfter s.whiteen s.whiteLfsr 24 := by simp [State.rxCrcStep]
@[simp] theorem State.rxCrcStep_curLen (s : State) : (s.rxCrcStep).curLen = s.curLen := by simp [State.rxCrcStep]
@[simp] theorem State.rxCrcStep_curS0 (s : State) : (s.rxCrcStep).curS0 = s.curS0 := by simp [State.rxCrcStep]
@[simp] theorem State.rxCrcStep_rxFrame (s : State) : (s.rxCrcStep).rxFrame = s.rxFrame := by simp [State.rxCrcStep]
@[simp] theorem State.rxCrcStep_rxSeed (s : State) : (s.rxCrcStep).rxSeed = s.rxSeed := by simp [State.rxCrcStep]
@[simp] theorem State.rxCrcStep_txBits (s : State) : (s.rxCrcStep).txBits = s.txBits := by simp [State.rxCrcStep]
@[simp] theorem State.rxCrcStep_antPattern (s : State) :
    (s.rxCrcStep).antPattern = s.antPattern := by simp [State.rxCrcStep]
@[simp] theorem State.rxCrcStep_ram (s : State) : (s.rxCrcStep).ram = s.ram := by simp [State.rxCrcStep]
@[simp] theorem State.rxCrcStep_script (s : State) : (s.rxCrcStep).script = s.script := by simp [State.rxCrcStep]
@[simp] theorem State.rxCrcStep_hpc (s : State) : (s.rxCrcStep).hpc = s.hpc := by simp [State.rxCrcStep]
@[simp] theorem State.rxCrcStep_busData (s : State) : (s.rxCrcStep).busData = s.busData := by simp [State.rxCrcStep]
@[simp] theorem State.rxCrcStep_wordVars (s : State) :
    (s.rxCrcStep).wordVars = s.wordVars := by simp [State.rxCrcStep]
@[simp] theorem State.rxCrcStep_byteVars (s : State) :
    (s.rxCrcStep).byteVars = s.byteVars := by simp [State.rxCrcStep]
@[simp] theorem State.rxCrcStep_filterAddr (s : State) :
    (s.rxCrcStep).filterAddr = s.filterAddr := by simp [State.rxCrcStep]
@[simp] theorem State.rxCrcStep_pduResult (s : State) :
    (s.rxCrcStep).pduResult = s.pduResult := by simp [State.rxCrcStep]
@[simp] theorem State.rxCrcStep_result (s : State) : (s.rxCrcStep).result = s.result := by simp [State.rxCrcStep]
@[simp] theorem State.rxCrcStep_airIn (s : State) : (s.rxCrcStep).airIn = s.airIn := by simp [State.rxCrcStep]
@[simp] theorem State.rxCrcStep_airLog (s : State) : (s.rxCrcStep).airLog = s.airLog := by simp [State.rxCrcStep]
@[simp] theorem State.rxCrcStep_turns (s : State) : (s.rxCrcStep).turns = s.turns := by simp [State.rxCrcStep]
@[simp] theorem State.rxCrcStep_tick (s : State) : (s.rxCrcStep).tick = s.tick := by simp [State.rxCrcStep]
@[simp] theorem State.rxCrcStep_fault (s : State) : (s.rxCrcStep).fault = s.fault := by simp [State.rxCrcStep]
@[simp] theorem State.rxCrcStep_refused (s : State) : (s.rxCrcStep).refused = s.refused := by simp [State.rxCrcStep]

/-! ### `State.rxCteStep` -/

@[simp] theorem State.rxCteStep_memMap (s : State) : (s.rxCteStep).memMap = s.memMap := by simp [State.rxCteStep]
@[simp] theorem State.rxCteStep_hfState (s : State) : (s.rxCteStep).hfState = s.hfState := by simp [State.rxCteStep]
@[simp] theorem State.rxCteStep_evHfclkStarted (s : State) :
    (s.rxCteStep).evHfclkStarted = s.evHfclkStarted := by simp [State.rxCteStep]
@[simp] theorem State.rxCteStep_powered (s : State) : (s.rxCteStep).powered = s.powered := by simp [State.rxCteStep]
@[simp] theorem State.rxCteStep_cfg (s : State) : (s.rxCteStep).cfg = s.cfg := by simp [State.rxCteStep]
@[simp] theorem State.rxCteStep_written (s : State) : (s.rxCteStep).written = s.written := by simp [State.rxCteStep]
@[simp] theorem State.rxCteStep_events (s : State) :
    (s.rxCteStep).events = s.events.set .phyend true := by simp [State.rxCteStep]
@[simp] theorem State.rxCteStep_intMask (s : State) : (s.rxCteStep).intMask = s.intMask := by simp [State.rxCteStep]
@[simp] theorem State.rxCteStep_crcStatus (s : State) :
    (s.rxCteStep).crcStatus = s.crcStatus := by simp [State.rxCteStep]
@[simp] theorem State.rxCteStep_rxMatch (s : State) : (s.rxCteStep).rxMatch = s.rxMatch := by simp [State.rxCteStep]
@[simp] theorem State.rxCteStep_rxCrc (s : State) : (s.rxCteStep).rxCrc = s.rxCrc := by simp [State.rxCteStep]
@[simp] theorem State.rxCteStep_amount (s : State) :
    (s.rxCteStep).amount = s.iqCapture.amount := by simp [State.rxCteStep]
@[simp] theorem State.rxCteStep_phase (s : State) : (s.rxCteStep).phase = .done := by simp [State.rxCteStep]
@[simp] theorem State.rxCteStep_session (s : State) : (s.rxCteStep).session = s.session := by simp [State.rxCteStep]
@[simp] theorem State.rxCteStep_dmaRegions (s : State) :
    (s.rxCteStep).dmaRegions = s.dmaRegions := by simp [State.rxCteStep]
@[simp] theorem State.rxCteStep_crcReg (s : State) : (s.rxCteStep).crcReg = s.crcReg := by simp [State.rxCteStep]
@[simp] theorem State.rxCteStep_whiteLfsr (s : State) :
    (s.rxCteStep).whiteLfsr = s.whiteLfsr := by simp [State.rxCteStep]
@[simp] theorem State.rxCteStep_curLen (s : State) : (s.rxCteStep).curLen = s.curLen := by simp [State.rxCteStep]
@[simp] theorem State.rxCteStep_curS0 (s : State) : (s.rxCteStep).curS0 = s.curS0 := by simp [State.rxCteStep]
@[simp] theorem State.rxCteStep_rxFrame (s : State) : (s.rxCteStep).rxFrame = s.rxFrame := by simp [State.rxCteStep]
@[simp] theorem State.rxCteStep_rxSeed (s : State) : (s.rxCteStep).rxSeed = s.rxSeed := by simp [State.rxCteStep]
@[simp] theorem State.rxCteStep_txBits (s : State) : (s.rxCteStep).txBits = s.txBits := by simp [State.rxCteStep]
@[simp] theorem State.rxCteStep_antPattern (s : State) :
    (s.rxCteStep).antPattern = s.antPattern := by simp [State.rxCteStep]
@[simp] theorem State.rxCteStep_ram (s : State) : (s.rxCteStep).ram = s.iqCapture.ram := by simp [State.rxCteStep]
@[simp] theorem State.rxCteStep_script (s : State) : (s.rxCteStep).script = s.script := by simp [State.rxCteStep]
@[simp] theorem State.rxCteStep_hpc (s : State) : (s.rxCteStep).hpc = s.hpc := by simp [State.rxCteStep]
@[simp] theorem State.rxCteStep_busData (s : State) : (s.rxCteStep).busData = s.busData := by simp [State.rxCteStep]
@[simp] theorem State.rxCteStep_wordVars (s : State) :
    (s.rxCteStep).wordVars = s.wordVars := by simp [State.rxCteStep]
@[simp] theorem State.rxCteStep_byteVars (s : State) :
    (s.rxCteStep).byteVars = s.byteVars := by simp [State.rxCteStep]
@[simp] theorem State.rxCteStep_filterAddr (s : State) :
    (s.rxCteStep).filterAddr = s.filterAddr := by simp [State.rxCteStep]
@[simp] theorem State.rxCteStep_pduResult (s : State) :
    (s.rxCteStep).pduResult = s.pduResult := by simp [State.rxCteStep]
@[simp] theorem State.rxCteStep_result (s : State) : (s.rxCteStep).result = s.result := by simp [State.rxCteStep]
@[simp] theorem State.rxCteStep_airIn (s : State) : (s.rxCteStep).airIn = s.airIn := by simp [State.rxCteStep]
@[simp] theorem State.rxCteStep_airLog (s : State) : (s.rxCteStep).airLog = s.airLog := by simp [State.rxCteStep]
@[simp] theorem State.rxCteStep_turns (s : State) : (s.rxCteStep).turns = s.turns := by simp [State.rxCteStep]
@[simp] theorem State.rxCteStep_tick (s : State) : (s.rxCteStep).tick = s.tick := by simp [State.rxCteStep]
@[simp] theorem State.rxCteStep_fault (s : State) : (s.rxCteStep).fault = s.fault := by simp [State.rxCteStep]
@[simp] theorem State.rxCteStep_refused (s : State) : (s.rxCteStep).refused = s.refused := by simp [State.rxCteStep]

/-! ### `State.rampUp` -/

@[simp] theorem State.rampUp_memMap (s : State) (idle : RadioState) :
    (s.rampUp idle).memMap = s.memMap := by simp [State.rampUp]
@[simp] theorem State.rampUp_hfState (s : State) (idle : RadioState) :
    (s.rampUp idle).hfState = s.hfState := by simp [State.rampUp]
@[simp] theorem State.rampUp_evHfclkStarted (s : State) (idle : RadioState) :
    (s.rampUp idle).evHfclkStarted = s.evHfclkStarted := by simp [State.rampUp]
@[simp] theorem State.rampUp_powered (s : State) (idle : RadioState) :
    (s.rampUp idle).powered = s.powered := by simp [State.rampUp]
@[simp] theorem State.rampUp_cfg (s : State) (idle : RadioState) :
    (s.rampUp idle).cfg = s.cfg := by simp [State.rampUp]
@[simp] theorem State.rampUp_written (s : State) (idle : RadioState) :
    (s.rampUp idle).written = s.written := by simp [State.rampUp]
@[simp] theorem State.rampUp_events (s : State) (idle : RadioState) :
    (s.rampUp idle).events = s.events.set .ready true := by simp [State.rampUp]
@[simp] theorem State.rampUp_intMask (s : State) (idle : RadioState) :
    (s.rampUp idle).intMask = s.intMask := by simp [State.rampUp]
@[simp] theorem State.rampUp_crcStatus (s : State) (idle : RadioState) :
    (s.rampUp idle).crcStatus = s.crcStatus := by simp [State.rampUp]
@[simp] theorem State.rampUp_rxMatch (s : State) (idle : RadioState) :
    (s.rampUp idle).rxMatch = s.rxMatch := by simp [State.rampUp]
@[simp] theorem State.rampUp_rxCrc (s : State) (idle : RadioState) :
    (s.rampUp idle).rxCrc = s.rxCrc := by simp [State.rampUp]
@[simp] theorem State.rampUp_amount (s : State) (idle : RadioState) :
    (s.rampUp idle).amount = s.amount := by simp [State.rampUp]
@[simp] theorem State.rampUp_session (s : State) (idle : RadioState) :
    (s.rampUp idle).session = s.session := by simp [State.rampUp]
@[simp] theorem State.rampUp_dmaRegions (s : State) (idle : RadioState) :
    (s.rampUp idle).dmaRegions = s.dmaRegions := by simp [State.rampUp]
@[simp] theorem State.rampUp_crcReg (s : State) (idle : RadioState) :
    (s.rampUp idle).crcReg = s.crcReg := by simp [State.rampUp]
@[simp] theorem State.rampUp_whiteLfsr (s : State) (idle : RadioState) :
    (s.rampUp idle).whiteLfsr = s.whiteLfsr := by simp [State.rampUp]
@[simp] theorem State.rampUp_curLen (s : State) (idle : RadioState) :
    (s.rampUp idle).curLen = s.curLen := by simp [State.rampUp]
@[simp] theorem State.rampUp_curS0 (s : State) (idle : RadioState) :
    (s.rampUp idle).curS0 = s.curS0 := by simp [State.rampUp]
@[simp] theorem State.rampUp_rxFrame (s : State) (idle : RadioState) :
    (s.rampUp idle).rxFrame = s.rxFrame := by simp [State.rampUp]
@[simp] theorem State.rampUp_rxSeed (s : State) (idle : RadioState) :
    (s.rampUp idle).rxSeed = s.rxSeed := by simp [State.rampUp]
@[simp] theorem State.rampUp_txBits (s : State) (idle : RadioState) :
    (s.rampUp idle).txBits = s.txBits := by simp [State.rampUp]
@[simp] theorem State.rampUp_antPattern (s : State) (idle : RadioState) :
    (s.rampUp idle).antPattern = s.antPattern := by simp [State.rampUp]
@[simp] theorem State.rampUp_ram (s : State) (idle : RadioState) :
    (s.rampUp idle).ram = s.ram := by simp [State.rampUp]
@[simp] theorem State.rampUp_script (s : State) (idle : RadioState) :
    (s.rampUp idle).script = s.script := by simp [State.rampUp]
@[simp] theorem State.rampUp_hpc (s : State) (idle : RadioState) :
    (s.rampUp idle).hpc = s.hpc := by simp [State.rampUp]
@[simp] theorem State.rampUp_busData (s : State) (idle : RadioState) :
    (s.rampUp idle).busData = s.busData := by simp [State.rampUp]
@[simp] theorem State.rampUp_wordVars (s : State) (idle : RadioState) :
    (s.rampUp idle).wordVars = s.wordVars := by simp [State.rampUp]
@[simp] theorem State.rampUp_byteVars (s : State) (idle : RadioState) :
    (s.rampUp idle).byteVars = s.byteVars := by simp [State.rampUp]
@[simp] theorem State.rampUp_filterAddr (s : State) (idle : RadioState) :
    (s.rampUp idle).filterAddr = s.filterAddr := by simp [State.rampUp]
@[simp] theorem State.rampUp_pduResult (s : State) (idle : RadioState) :
    (s.rampUp idle).pduResult = s.pduResult := by simp [State.rampUp]
@[simp] theorem State.rampUp_result (s : State) (idle : RadioState) :
    (s.rampUp idle).result = s.result := by simp [State.rampUp]
@[simp] theorem State.rampUp_airIn (s : State) (idle : RadioState) :
    (s.rampUp idle).airIn = s.airIn := by simp [State.rampUp]
@[simp] theorem State.rampUp_airLog (s : State) (idle : RadioState) :
    (s.rampUp idle).airLog = s.airLog := by simp [State.rampUp]
@[simp] theorem State.rampUp_turns (s : State) (idle : RadioState) :
    (s.rampUp idle).turns = s.turns := by simp [State.rampUp]
@[simp] theorem State.rampUp_tick (s : State) (idle : RadioState) :
    (s.rampUp idle).tick = s.tick := by simp [State.rampUp]
@[simp] theorem State.rampUp_fault (s : State) (idle : RadioState) :
    (s.rampUp idle).fault = s.fault := by simp [State.rampUp]
@[simp] theorem State.rampUp_refused (s : State) (idle : RadioState) :
    (s.rampUp idle).refused = s.refused := by simp [State.rampUp]

end Sys2Proof.Machine
end

