-- ==== Sys2Proof/Laws/Framer.lean ====
section
/-!
SUPPORT. Lengths and prefixes of the bit streams the framer handles, and what its DMA writes reach.
-/

namespace Sys2Proof.Machine

@[simp] theorem length_bitsOf {w : Nat} (n : Nat) (v : BitVec w) : (bitsOf n v).length = n := by simp [bitsOf]

@[simp] theorem bitsLsb_nil : bitsLsb [] = [] := rfl

@[simp] theorem bitsLsb_cons (b : Byte) (rest : List Byte) : bitsLsb (b :: rest) = bitsOf 8 b ++ bitsLsb rest := rfl

@[simp] theorem length_bitsLsb (bytes : List Byte) : (bitsLsb bytes).length = 8 * bytes.length := by
  induction bytes with
  | nil => rfl
  | cons b rest ih => simp [ih]; omega

@[simp] theorem length_bitsLsb32 (w : Word) : (bitsLsb32 w).length = 32 := by simp [bitsLsb32]

@[simp] theorem length_crcBits (c : BitVec 24) : (crcBits c).length = 24 := by simp [crcBits]

@[simp] theorem length_preamble (aa : Word) : (preamble aa).length = 8 := by simp [preamble]

@[simp] theorem length_whiten (p : BitVec 7) (bits : List Bool) : (whiten p bits).length = bits.length := by
  induction bits generalizing p with
  | nil => rfl
  | cons b rest ih => simp [whiten, ih]

@[simp] theorem length_whitenIf (on : Bool) (p : BitVec 7) (bits : List Bool) :
    (whitenIf on p bits).length = bits.length := by cases on <;> simp [whitenIf]

/-- Whitening a prefix is a prefix of whitening. -/
theorem whiten_take (p : BitVec 7) (n : Nat) (bits : List Bool) :
    whiten p (bits.take n) = (whiten p bits).take n := by
  induction bits generalizing p n with
  | nil => simp [whiten]
  | cons b rest ih => cases n <;> simp [whiten, ih]

theorem whitenIf_take (on : Bool) (p : BitVec 7) (n : Nat) (bits : List Bool) :
    whitenIf on p (bits.take n) = (whitenIf on p bits).take n := by cases on <;> simp [whitenIf, whiten_take]

@[simp] theorem length_streamBits (bits : List Bool) (seed pos n : Nat) : (streamBits bits seed pos n).length = n := by
  induction n generalizing bits pos with
  | zero => cases bits <;> rfl
  | succ n ih => cases bits <;> simp [streamBits, ih]

@[simp] theorem length_rxBits (s : State) (start n : Nat) : (s.rxBits start n).length = n := by simp [State.rxBits]

@[simp] theorem length_rxPlain (s : State) (n : Nat) : (s.rxPlain n).length = n := by simp [State.rxPlain]

/-- A shorter read of the stream is a prefix of a longer one. -/
theorem streamBits_take (bits : List Bool) (seed pos n m : Nat) (h : m ≤ n) :
    (streamBits bits seed pos n).take m = streamBits bits seed pos m := by
  induction m generalizing bits pos n with
  | zero => cases bits <;> cases n <;> rfl
  | succ m ih =>
    cases n with
    | zero => omega
    | succ n => cases bits <;> simp [streamBits, ih _ _ n (by omega)]

/-- The de-whitened stream read to a shorter length is a prefix. -/
theorem rxPlain_take (s : State) (n m : Nat) (h : m ≤ n) : (s.rxPlain n).take m = s.rxPlain m := by
  rw [State.rxPlain, ← whitenIf_take, State.rxBits, streamBits_take _ _ _ _ _ h]
  rfl

/-- Bits the frame lists are read from it. -/
theorem streamBits_append (xs ys : List Bool) (seed pos : Nat) : streamBits (xs ++ ys) seed pos xs.length = xs := by
  induction xs generalizing pos with
  | nil => cases ys <;> rfl
  | cons b rest ih => simp [streamBits, ih]

@[simp] theorem length_bytesOfStream (n : Nat) (bits : List Bool) : (bytesOfStream n bits).length = n := by
  induction n generalizing bits with
  | zero => rfl
  | succ n ih => simp [bytesOfStream, ih]

/-- R13: the j-th byte of a stream. -/
theorem getElem_bytesOfStream (n : Nat) (bits : List Bool) (j : Nat) (h : j < (bytesOfStream n bits).length) :
    (bytesOfStream n bits)[j] = byteAt bits j := by
  induction n generalizing bits j with
  | zero => simp at h
  | succ n ih =>
    cases j with
    | zero => rfl
    | succ j => simp [bytesOfStream, ih, byteAt, Nat.mul_add, Nat.add_comm]

/-- A byte depends on its own eight bits only. -/
theorem byteAt_take (bits : List Bool) (j n : Nat) (h : 8 * j + 8 ≤ n) : byteAt (bits.take n) j = byteAt bits j := by
  simp only [byteAt, List.drop_take, List.take_take]
  rw [Nat.min_eq_left (by omega)]

/-- R138: RADIO stores S0, LENGTH and at most MAXLEN bytes. -/
@[simp] theorem length_rxStored (s : State) : s.rxStored.length = 2 + min s.rxLen.toNat s.maxlen := by
  simp [State.rxStored]

/-- R242: a capture writes at most MAXCNT words. -/
theorem length_iqWords_le (s : State) : s.iqWords.length ≤ s.iqMaxcnt := by simp [State.iqWords]

/-- R75: the bytes of a list of words. -/
theorem length_flatMap_wordBytes (ws : List Word) : (ws.flatMap wordBytes).length = 4 * ws.length := by
  induction ws with
  | nil => rfl
  | cons w rest ih => simp only [List.flatMap_cons, List.length_append, length_wordBytes, ih, List.length_cons]; omega

/-- R242: the capture's RAM and AMOUNT when the session has a CTE. -/
theorem iqCapture_of_cte (s : State) (h : s.cteEnabled = true) :
    s.iqCapture = { s with
      ram := writeBytes s.ram s.iqPtr (s.iqWords.flatMap wordBytes)
      amount := BitVec.ofNat 16 s.iqWords.length } := by simp [State.iqCapture, h]

/-- R242: without a CTE the capture changes nothing. -/
theorem iqCapture_of_no_cte (s : State) (h : s.cteEnabled = false) : s.iqCapture = s := by
  simp [State.iqCapture, h]

end Sys2Proof.Machine
end

