-- ==== Sys2Proof/Laws/Operands.lean ====
section
/-!
SUPPORT. Every operand field, and what R180 computes from the fields, looks at the configuration registers only: two
states with the same registers read the same.
-/

namespace Sys2Proof.Machine

/-- R179: a register reads from the register file only. -/
theorem State.reg_congr {s t : State} (h : t.cfg = s.cfg) (r : CfgReg) : t.reg r = s.reg r := by
  simp [State.reg, h]

/-- R42: bit 6 of DATAWHITEIV reads 1 whatever the register file holds. -/
theorem State.reg_datawhiteiv_bit6 (s : State) : (s.reg .datawhiteiv).getLsbD 6 = true := by
  simp [State.reg, keepFields, hardwiredOnes]

/-- R53, R179: a register after a write. -/
theorem State.reg_writeReg (s : State) (r q : CfgReg) (d : Word) :
    (s.writeReg r d).reg q = if q = r then keepFields r d else s.reg q := by
  simp only [State.reg, State.writeReg_cfg, RegFile.get_set]
  split
  · subst_vars; simp
  · rfl

theorem State.readyStart_congr {s t : State} (h : t.cfg = s.cfg) : t.readyStart = s.readyStart := by
  simp [State.readyStart, State.reg_congr h]

theorem State.phyendDisable_congr {s t : State} (h : t.cfg = s.cfg) : t.phyendDisable = s.phyendDisable := by
  simp [State.phyendDisable, State.reg_congr h]

theorem State.packetPtr_congr {s t : State} (h : t.cfg = s.cfg) : t.packetPtr = s.packetPtr := by
  simp [State.packetPtr, State.reg_congr h]

theorem State.freqOffset_congr {s t : State} (h : t.cfg = s.cfg) : t.freqOffset = s.freqOffset := by
  simp [State.freqOffset, State.reg_congr h]

theorem State.freqMap_congr {s t : State} (h : t.cfg = s.cfg) : t.freqMap = s.freqMap := by
  simp [State.freqMap, State.reg_congr h]

theorem State.carrierMhz_congr {s t : State} (h : t.cfg = s.cfg) : t.carrierMhz = s.carrierMhz := by
  simp [State.carrierMhz, State.freqOffset_congr h]

theorem State.radioMode_congr {s t : State} (h : t.cfg = s.cfg) : t.radioMode = s.radioMode := by
  simp [State.radioMode, State.reg_congr h]

theorem State.maxlen_congr {s t : State} (h : t.cfg = s.cfg) : t.maxlen = s.maxlen := by
  simp [State.maxlen, State.reg_congr h]

theorem State.statlen_congr {s t : State} (h : t.cfg = s.cfg) : t.statlen = s.statlen := by
  simp [State.statlen, State.reg_congr h]

theorem State.balen_congr {s t : State} (h : t.cfg = s.cfg) : t.balen = s.balen := by
  simp [State.balen, State.reg_congr h]

theorem State.endian_congr {s t : State} (h : t.cfg = s.cfg) : t.endian = s.endian := by
  simp [State.endian, State.reg_congr h]

theorem State.whiteen_congr {s t : State} (h : t.cfg = s.cfg) : t.whiteen = s.whiteen := by
  simp [State.whiteen, State.reg_congr h]

theorem State.accessAddress_congr {s t : State} (h : t.cfg = s.cfg) : t.accessAddress = s.accessAddress := by
  simp [State.accessAddress, State.reg_congr h]

theorem State.txAddress_congr {s t : State} (h : t.cfg = s.cfg) : t.txAddress = s.txAddress := by
  simp [State.txAddress, State.reg_congr h]

theorem State.rxAddresses_congr {s t : State} (h : t.cfg = s.cfg) : t.rxAddresses = s.rxAddresses := by
  simp [State.rxAddresses, State.reg_congr h]

theorem State.crcLen_congr {s t : State} (h : t.cfg = s.cfg) : t.crcLen = s.crcLen := by
  simp [State.crcLen, State.reg_congr h]

theorem State.crcSkipAddr_congr {s t : State} (h : t.cfg = s.cfg) : t.crcSkipAddr = s.crcSkipAddr := by
  simp [State.crcSkipAddr, State.reg_congr h]

theorem State.crcPoly_congr {s t : State} (h : t.cfg = s.cfg) : t.crcPoly = s.crcPoly := by
  simp [State.crcPoly, State.reg_congr h]

theorem State.crcInit_congr {s t : State} (h : t.cfg = s.cfg) : t.crcInit = s.crcInit := by
  simp [State.crcInit, State.reg_congr h]

theorem State.whiteIv_congr {s t : State} (h : t.cfg = s.cfg) : t.whiteIv = s.whiteIv := by
  simp [State.whiteIv, State.reg_congr h]

theorem State.dfeOpMode_congr {s t : State} (h : t.cfg = s.cfg) : t.dfeOpMode = s.dfeOpMode := by
  simp [State.dfeOpMode, State.reg_congr h]

theorem State.cteEnabled_congr {s t : State} (h : t.cfg = s.cfg) : t.cteEnabled = s.cteEnabled := by
  simp [State.cteEnabled, State.dfeOpMode_congr h]

theorem State.cteInlineCtrlEn_congr {s t : State} (h : t.cfg = s.cfg) : t.cteInlineCtrlEn = s.cteInlineCtrlEn := by
  simp [State.cteInlineCtrlEn, State.reg_congr h]

theorem State.numberOf8us_congr {s t : State} (h : t.cfg = s.cfg) : t.numberOf8us = s.numberOf8us := by
  simp [State.numberOf8us, State.reg_congr h]

theorem State.dfeInExtension_congr {s t : State} (h : t.cfg = s.cfg) : t.dfeInExtension = s.dfeInExtension := by
  simp [State.dfeInExtension, State.reg_congr h]

theorem State.tSwitchSpacing_congr {s t : State} (h : t.cfg = s.cfg) : t.tSwitchSpacing = s.tSwitchSpacing := by
  simp [State.tSwitchSpacing, State.reg_congr h]

theorem State.tSampleSpacingRef_congr {s t : State} (h : t.cfg = s.cfg) : t.tSampleSpacingRef = s.tSampleSpacingRef := by
  simp [State.tSampleSpacingRef, State.reg_congr h]

theorem State.sampleType_congr {s t : State} (h : t.cfg = s.cfg) : t.sampleType = s.sampleType := by
  simp [State.sampleType, State.reg_congr h]

theorem State.tSampleSpacing_congr {s t : State} (h : t.cfg = s.cfg) : t.tSampleSpacing = s.tSampleSpacing := by
  simp [State.tSampleSpacing, State.reg_congr h]

theorem State.repeatPattern_congr {s t : State} (h : t.cfg = s.cfg) : t.repeatPattern = s.repeatPattern := by
  simp [State.repeatPattern, State.reg_congr h]

theorem State.iqPtr_congr {s t : State} (h : t.cfg = s.cfg) : t.iqPtr = s.iqPtr := by
  simp [State.iqPtr, State.reg_congr h]

theorem State.iqMaxcnt_congr {s t : State} (h : t.cfg = s.cfg) : t.iqMaxcnt = s.iqMaxcnt := by
  simp [State.iqMaxcnt, State.reg_congr h]

theorem State.dfectrl1Admitted_congr {s t : State} (h : t.cfg = s.cfg) : t.dfectrl1Admitted = s.dfectrl1Admitted := by
  simp [State.dfectrl1Admitted, State.numberOf8us_congr h, State.dfeInExtension_congr h, State.tSwitchSpacing_congr h,
    State.tSampleSpacingRef_congr h, State.sampleType_congr h, State.tSampleSpacing_congr h,
    State.repeatPattern_congr h]

theorem State.packetRegion_congr {s t : State} (h : t.cfg = s.cfg) : t.packetRegion = s.packetRegion := by
  simp [State.packetRegion, State.packetPtr_congr h, State.maxlen_congr h]

theorem State.iqRegion_congr {s t : State} (h : t.cfg = s.cfg) : t.iqRegion = s.iqRegion := by
  simp [State.iqRegion, State.iqPtr_congr h, State.iqMaxcnt_congr h]

theorem State.admitted_congr {s t : State} (h : t.cfg = s.cfg) (r : CfgReg) : t.admitted r = s.admitted r := by
  cases r <;>
    simp [State.admitted, State.freqOffset_congr h, State.freqMap_congr h, State.radioMode_congr h,
      State.reg_congr h, State.statlen_congr h, State.balen_congr h, State.endian_congr h, State.txAddress_congr h,
      State.rxAddresses_congr h, State.crcLen_congr h, State.crcSkipAddr_congr h, State.dfeOpMode_congr h,
      State.cteInlineCtrlEn_congr h, State.dfectrl1Admitted_congr h, State.iqMaxcnt_congr h]

theorem State.usedRegs_congr {s t : State} (h : t.cfg = s.cfg) (kind : Session) : t.usedRegs kind = s.usedRegs kind := by
  simp [State.usedRegs, State.cteEnabled_congr h]

/-- R180 step 3 looks at the registers and their `written` marks. -/
theorem State.unwrittenRegs_congr {s t : State} (h : t.cfg = s.cfg) (hw : t.written = s.written) (kind : Session) :
    t.unwrittenRegs kind = s.unwrittenRegs kind := by
  simp [State.unwrittenRegs, State.usedRegs_congr h, hw]

/-- R180 step 4 looks at the registers. -/
theorem State.notAdmittedRegs_congr {s t : State} (h : t.cfg = s.cfg) (kind : Session) :
    t.notAdmittedRegs kind = s.notAdmittedRegs kind := by
  simp [State.notAdmittedRegs, State.usedRegs_congr h, State.admitted_congr h]

/-- R180 step 5 looks at the registers. -/
theorem State.pointersAligned_congr {s t : State} (h : t.cfg = s.cfg) (kind : Session) :
    t.pointersAligned kind = s.pointersAligned kind := by
  simp [State.pointersAligned, State.packetPtr_congr h, State.cteEnabled_congr h, State.iqPtr_congr h]

/-- R76: the regions of a session look at the registers. -/
theorem State.sessionRegions_congr {s t : State} (h : t.cfg = s.cfg) (kind : Session) :
    t.sessionRegions kind = s.sessionRegions kind := by
  simp [State.sessionRegions, State.cteEnabled_congr h, State.packetRegion_congr h, State.iqRegion_congr h]

end Sys2Proof.Machine
end

