-- ==== Sys2Proof/Laws/Runs.lean ====
section
/-!
SUPPORT. Runs: what one more step gives, that a stopped run stays, and that a run that stops is fair.
-/

namespace Sys2Proof.Machine

@[simp] theorem State.runState_zero (s : State) : s.runState 0 = s := rfl

theorem State.runState_succ (s : State) (n : Nat) : s.runState (n + 1) = (s.runState n).settle (step (s.runState n)) :=
  rfl

/-- R270, R271: a run that has stopped stays as it is. -/
theorem State.settle_step_of_stopped {s : State} (h : s.stopped = true) : s.settle (step s) = s := by
  unfold step machineStep State.ifRunning
  cases hf : s.fault with
  | some f =>
    cases s
    simp_all [State.settle]
  | none =>
    cases hr : s.refused with
    | some r =>
      cases s
      simp_all [State.settle]
    | none => simp [State.stopped, hf, hr] at h

/-- While the run goes on, a step that completes is a turn of the agent whose turn it is. -/
theorem State.settle_step_of_running {s : State} (h : s.stopped = false) :
    s.settle (step s) = s.settle (agentStep s.nextAgent s.beginTurn) := by
  simp only [State.stopped, Bool.or_eq_false_iff, Option.isSome_eq_false_iff, Option.isNone_iff_eq_none] at h
  rw [step_running h.1 h.2]

/-- R270, R271: a run that has stopped at one step has stopped at every later one. -/
theorem State.stopped_mono {s : State} {n k : Nat} (h : (s.runState n).stopped = true) (hk : n ≤ k) :
    (s.runState k).stopped = true := by
  induction hk with
  | refl => exact h
  | step _ ih => rwa [State.runState_succ, State.settle_step_of_stopped ih]

/-- A run that stops is fair: every enabled step waits for no turn any more. -/
theorem fairRun_of_stops {s : State} {n : Nat} (h : (s.runState n).stopped = true) : FairRun s := by
  have aux : ∀ (a : Agent) (enabled : State → Bool), FairTo a enabled s := fun a enabled k _ =>
    ⟨max n k, le_max_right n k, .inl (State.stopped_mono h (le_max_left n k))⟩
  exact ⟨aux .radio _, aux .clock _⟩

end Sys2Proof.Machine
end

