-- ==== Sys2Proof/Tests/Slice0.lean ====
section
/-!
SUPPORT. The model's own tests. Expected values are those of spec/95_test_vectors.md (named by section), of the register
map R91, or worked by hand from the rule named. A witness theorem shows that the hypotheses of a statement can be met.
-/

namespace Sys2Proof.Tests

open Sys2Proof.Machine

/-! ### Helpers -/

/-- What a next state gives; none for a fault or a refusal. -/
def nextOf {α : Type} (f : State → α) (o : Out) : Option α :=
  match o with
  | .next t => some (f t)
  | .fault _ => none
  | .refused _ => none

/-- The reason of a refusal. -/
def refusalOf (o : Out) : Option Refusal :=
  match o with
  | .next _ => none
  | .fault _ => none
  | .refused r => some r

/-- The reason of a fault. -/
def faultOf (o : Out) : Option Fault :=
  match o with
  | .next _ => none
  | .fault r => some r
  | .refused _ => none

/-- The instruction a decoder result holds. -/
def okOf (r : Except DecodeError Instr) : Option Instr :=
  match r with
  | .ok i => some i
  | .error _ => none

/-- The configuration of L2.8's third row: radio_init, set_channel(37), cte_configure(0), PACKETPTR. -/
def cfg37 : RegFile Word :=
  { RegFile.atReset with
    packetptr := 0x20000100#32
    frequency := 2#32
    mode := 3#32
    pcnf0 := 0x108#32
    pcnf1 := 0x02030027#32
    base0 := 0x89BED600#32
    prefix0 := 0x8E#32
    rxaddresses := 1#32
    crccnf := 0x103#32
    crcpoly := 0x65B#32
    crcinit := 0x555555#32
    datawhiteiv := 0x65#32
    shorts := 0x00100001#32 }

/-- The same with a CTE of 20 units and an IQ buffer of 128 words (L3.3). -/
def cfgCte : RegFile Word :=
  { cfg37 with
    packetptr := 0x20000200#32
    dfemode := 3#32
    dfectrl1 := 0x00023294#32
    dfepacketPtr := 0x20000300#32
    dfepacketMaxcnt := 128#32 }

/-- An idle radio, configured and ready for TXEN and RXEN. -/
def ready : State :=
  { State.reset with hfState := .running, cfg := cfg37, written := RegFile.all true }

/-- The same with a CTE. -/
def readyCte : State := { ready with cfg := cfgCte }

/-- A transmit session in flight, in a state and phase, its packet `42 00` in RAM. -/
def inTx (st : RadioState) (ph : Phase) : State :=
  { ready with
    session := .tx
    radioState := st
    phase := ph
    dmaRegions := [{ start := 0x20000100, len := 41 }]
    ram := [(0x20000100, 0x42#8), (0x20000101, 0#8)] }

/-- A receive session with a CTE in flight, in a state and phase. -/
def inRx (st : RadioState) (ph : Phase) : State :=
  { readyCte with
    session := .rx
    radioState := st
    phase := ph
    dmaRegions := [{ start := 0x20000200, len := 41 }, { start := 0x20000300, len := 512 }] }

/-- The channel 37 frame of L2.5's row `42 00`, after the access address, with two IQ words. -/
def frame : AirFrame :=
  { carrier := 2402
    aa := 0x8E89BED6#32
    bits := bitsLsb [0xCF#8, 0xD2#8, 0x13#8, 0x1A#8, 0xDF#8]
    iq := [0xFFFE0003#32, 0x80007FFF#32]
    crcDraw := 5#24
    okDraw := true }

/-- A receive session whose frame has been delivered (R137). -/
def received (ph : Phase) : State :=
  { inRx .rx ph with turns := [.radio], rxFrame := frame, crcReg := 0x555555#24, whiteLfsr := 0x53#7, curS0 := 0x42#8 }

/-- HOST's turn, with one statement. -/
def host (s : State) (st : Stmt) : State := { s with script := [st], turns := [.host] }

/-- A 32-bit write. -/
def wrAt (addr data : Word) : BusAccess := { addr := addr, size := .bits32, dir := .wr, data := data }

/-- A 32-bit read. -/
def rdAt (addr : Word) : BusAccess := { addr := addr, size := .bits32, dir := .rd, data := 0#32 }

/-! ### Well-formedness: each check refuses an ill-formed term (R92, R140) -/

theorem test_wf_refuses_status_write : (Instr.crcstatus (.wr 1#32)).wf = false := by decide
theorem test_wf_refuses_task_read : (Instr.tasksTxen .rd).wf = false := by decide
theorem test_wf_refuses_write_only_read : (Instr.switchpattern .rd).wf = false := by decide
theorem test_wf_refuses_short_pdu : (Instr.advNonconnInd 9#8 0#48 [2#8, 1#8]).wf = false := by decide
theorem test_wf_accepts_pdu : (Instr.advNonconnInd 9#8 0#48 [2#8, 1#8, 6#8]).wf = true := by decide
theorem test_wf_accepts_config_read : (Instr.power .rd).wf = true := by decide

/-! ### Decoding: one word for each constructor, its address from R91 written out -/

theorem test_decode_clockTasksHfclkstart :
    decodeTableWord 96 0x000000010000000240000000 = some (.clockTasksHfclkstart (.wr 1#32)) := by decide
theorem test_decode_clockEventsHfclkstarted :
    decodeTableWord 96 0x000000020000000240000100 = some (.clockEventsHfclkstarted (.wr 2#32)) := by decide
theorem test_decode_tasksTxen :
    decodeTableWord 96 0x000000030000000240001000 = some (.tasksTxen (.wr 3#32)) := by decide
theorem test_decode_tasksRxen :
    decodeTableWord 96 0x000000010000000240001004 = some (.tasksRxen (.wr 1#32)) := by decide
theorem test_decode_tasksStart :
    decodeTableWord 96 0x000000020000000240001008 = some (.tasksStart (.wr 2#32)) := by decide
theorem test_decode_tasksStop :
    decodeTableWord 96 0x00000003000000024000100C = some (.tasksStop (.wr 3#32)) := by decide
theorem test_decode_tasksDisable :
    decodeTableWord 96 0x000000010000000240001010 = some (.tasksDisable (.wr 1#32)) := by decide
theorem test_decode_eventsReady :
    decodeTableWord 96 0x000000020000000240001100 = some (.eventsReady (.wr 2#32)) := by decide
theorem test_decode_eventsAddress :
    decodeTableWord 96 0x000000030000000240001104 = some (.eventsAddress (.wr 3#32)) := by decide
theorem test_decode_eventsPayload :
    decodeTableWord 96 0x000000010000000240001108 = some (.eventsPayload (.wr 1#32)) := by decide
theorem test_decode_eventsEnd :
    decodeTableWord 96 0x00000002000000024000110C = some (.eventsEnd (.wr 2#32)) := by decide
theorem test_decode_eventsDisabled :
    decodeTableWord 96 0x000000030000000240001110 = some (.eventsDisabled (.wr 3#32)) := by decide
theorem test_decode_eventsCrcok :
    decodeTableWord 96 0x000000010000000240001130 = some (.eventsCrcok (.wr 1#32)) := by decide
theorem test_decode_eventsCrcerror :
    decodeTableWord 96 0x000000020000000240001134 = some (.eventsCrcerror (.wr 2#32)) := by decide
theorem test_decode_eventsPhyend :
    decodeTableWord 96 0x00000003000000024000116C = some (.eventsPhyend (.wr 3#32)) := by decide
theorem test_decode_shorts :
    decodeTableWord 96 0x000000010000000240001200 = some (.shorts (.wr 1#32)) := by decide
theorem test_decode_intenset :
    decodeTableWord 96 0x000000020000000240001304 = some (.intenset (.wr 2#32)) := by decide
theorem test_decode_intenclr :
    decodeTableWord 96 0x000000030000000240001308 = some (.intenclr (.wr 3#32)) := by decide
theorem test_decode_crcstatus :
    decodeTableWord 96 0x0000000140001400 = some (.crcstatus .rd) := by decide
theorem test_decode_rxmatch :
    decodeTableWord 96 0x0000000140001408 = some (.rxmatch .rd) := by decide
theorem test_decode_rxcrc :
    decodeTableWord 96 0x000000014000140C = some (.rxcrc .rd) := by decide
theorem test_decode_packetptr :
    decodeTableWord 96 0x000000010000000240001504 = some (.packetptr (.wr 1#32)) := by decide
theorem test_decode_frequency :
    decodeTableWord 96 0x000000020000000240001508 = some (.frequency (.wr 2#32)) := by decide
theorem test_decode_txpower :
    decodeTableWord 96 0x00000003000000024000150C = some (.txpower (.wr 3#32)) := by decide
theorem test_decode_mode :
    decodeTableWord 96 0x000000010000000240001510 = some (.mode (.wr 1#32)) := by decide
theorem test_decode_pcnf0 :
    decodeTableWord 96 0x000000020000000240001514 = some (.pcnf0 (.wr 2#32)) := by decide
theorem test_decode_pcnf1 :
    decodeTableWord 96 0x000000030000000240001518 = some (.pcnf1 (.wr 3#32)) := by decide
theorem test_decode_base0 :
    decodeTableWord 96 0x00000001000000024000151C = some (.base0 (.wr 1#32)) := by decide
theorem test_decode_base1 :
    decodeTableWord 96 0x000000020000000240001520 = some (.base1 (.wr 2#32)) := by decide
theorem test_decode_prefix0 :
    decodeTableWord 96 0x000000030000000240001524 = some (.prefix0 (.wr 3#32)) := by decide
theorem test_decode_prefix1 :
    decodeTableWord 96 0x000000010000000240001528 = some (.prefix1 (.wr 1#32)) := by decide
theorem test_decode_txaddress :
    decodeTableWord 96 0x00000002000000024000152C = some (.txaddress (.wr 2#32)) := by decide
theorem test_decode_rxaddresses :
    decodeTableWord 96 0x000000030000000240001530 = some (.rxaddresses (.wr 3#32)) := by decide
theorem test_decode_crccnf :
    decodeTableWord 96 0x000000010000000240001534 = some (.crccnf (.wr 1#32)) := by decide
theorem test_decode_crcpoly :
    decodeTableWord 96 0x000000020000000240001538 = some (.crcpoly (.wr 2#32)) := by decide
theorem test_decode_crcinit :
    decodeTableWord 96 0x00000003000000024000153C = some (.crcinit (.wr 3#32)) := by decide
theorem test_decode_state :
    decodeTableWord 96 0x0000000140001550 = some (.state .rd) := by decide
theorem test_decode_datawhiteiv :
    decodeTableWord 96 0x000000020000000240001554 = some (.datawhiteiv (.wr 2#32)) := by decide
theorem test_decode_dfemode :
    decodeTableWord 96 0x000000030000000240001900 = some (.dfemode (.wr 3#32)) := by decide
theorem test_decode_cteinlineconf :
    decodeTableWord 96 0x000000010000000240001904 = some (.cteinlineconf (.wr 1#32)) := by decide
theorem test_decode_dfectrl1 :
    decodeTableWord 96 0x000000020000000240001910 = some (.dfectrl1 (.wr 2#32)) := by decide
theorem test_decode_dfectrl2 :
    decodeTableWord 96 0x000000030000000240001914 = some (.dfectrl2 (.wr 3#32)) := by decide
theorem test_decode_switchpattern :
    decodeTableWord 96 0x000000010000000240001928 = some (.switchpattern (.wr 1#32)) := by decide
theorem test_decode_clearpattern :
    decodeTableWord 96 0x00000002000000024000192C = some (.clearpattern (.wr 2#32)) := by decide
theorem test_decode_pselDfegpio0 :
    decodeTableWord 96 0x000000030000000240001930 = some (.pselDfegpio0 (.wr 3#32)) := by decide
theorem test_decode_pselDfegpio1 :
    decodeTableWord 96 0x000000010000000240001934 = some (.pselDfegpio1 (.wr 1#32)) := by decide
theorem test_decode_pselDfegpio2 :
    decodeTableWord 96 0x000000020000000240001938 = some (.pselDfegpio2 (.wr 2#32)) := by decide
theorem test_decode_pselDfegpio3 :
    decodeTableWord 96 0x00000003000000024000193C = some (.pselDfegpio3 (.wr 3#32)) := by decide
theorem test_decode_pselDfegpio4 :
    decodeTableWord 96 0x000000010000000240001940 = some (.pselDfegpio4 (.wr 1#32)) := by decide
theorem test_decode_pselDfegpio5 :
    decodeTableWord 96 0x000000020000000240001944 = some (.pselDfegpio5 (.wr 2#32)) := by decide
theorem test_decode_pselDfegpio6 :
    decodeTableWord 96 0x000000030000000240001948 = some (.pselDfegpio6 (.wr 3#32)) := by decide
theorem test_decode_pselDfegpio7 :
    decodeTableWord 96 0x00000001000000024000194C = some (.pselDfegpio7 (.wr 1#32)) := by decide
theorem test_decode_dfepacketPtr :
    decodeTableWord 96 0x000000020000000240001950 = some (.dfepacketPtr (.wr 2#32)) := by decide
theorem test_decode_dfepacketMaxcnt :
    decodeTableWord 96 0x000000030000000240001954 = some (.dfepacketMaxcnt (.wr 3#32)) := by decide
theorem test_decode_dfepacketAmount :
    decodeTableWord 96 0x0000000140001958 = some (.dfepacketAmount .rd) := by decide
theorem test_decode_power :
    decodeTableWord 96 0x000000020000000240001FFC = some (.power (.wr 2#32)) := by decide
theorem test_decode_advNonconnInd :
    okOf (decodePdu [0x42#8, 0x09#8, 0x01#8, 0x02#8, 0x03#8, 0x04#8, 0x05#8, 0xC6#8, 0x02#8, 0x01#8, 0x06#8]) =
      some (.advNonconnInd 9#8 0xC60504030201#48 [2#8, 1#8, 6#8]) := by decide

/-- R95: TxAdd 0 and ChSel 1 are other headers (L2.2). -/
theorem test_decode_other_headers :
    decodePdu [0x40#8, 0x09#8] = .error (.otherHeader 0x40#8) ∧
      decodePdu [0x62#8, 0x09#8] = .error (.otherHeader 0x62#8) := ⟨rfl, rfl⟩

theorem test_header_byte : advHeader = 0x42#8 := by decide

/-- R92, R107: L2.7's misaligned and unlisted accesses, an address outside the blocks, and another width. -/
theorem test_decode_refuses :
    decodeAccess MemMap.default (wrAt 0x40001502#32 0#32) = .error .misaligned ∧
      decodeAccess MemMap.default (rdAt 0x40001540#32) = .error (.unlisted 0x40001540#32) ∧
      decodeAccess MemMap.default (rdAt 0x40002000#32) = .error (.outsideBlocks 0x40002000#32) ∧
      decodeAccess MemMap.default { rdAt 0x40001500#32 with size := .bits16 } = .error .badWidth :=
  ⟨rfl, rfl, rfl, rfl⟩

/-- R10: another radio base moves the registers with it. -/
theorem test_decode_moved_radio :
    okOf (decodeAccess { MemMap.default with radioBase := 0x50000000 } (rdAt 0x50000400#32)) = some (.crcstatus .rd) := by
  decide

/-- A word without a direction reads a read-only register and writes any other (assumption 2). -/
theorem test_decode_default_direction :
    decodeTableWord 32 0x40001550 = some (.state .rd) ∧ decodeTableWord 32 0x40001304 = some (.intenset (.wr 0#32)) := by
  decide

/-! ### Accesses: L2.7 -/

theorem test_txen_read : refusalOf (exec (.tasksTxen .rd) State.reset) = some .badAccess := by decide
theorem test_crcstatus_write : refusalOf (exec (.crcstatus (.wr 1#32)) State.reset) = some .badAccess := by decide
theorem test_event_write_one :
    refusalOf (exec (.eventsDisabled (.wr 1#32)) State.reset) = some .eventWriteNonZero := by decide
theorem test_event_read_keeps :
    nextOf (fun t => (t.busData, t.events.disabled))
      (exec (.eventsDisabled .rd) (State.reset.setEvent .disabled true)) = some (1#32, true) := by decide
theorem test_end_disable_shortcut : refusalOf (exec (.shorts (.wr 2#32)) State.reset) = some .unsupported := by decide
theorem test_shorts_write :
    nextOf (fun t => t.reg .shorts) (exec (.shorts (.wr 0x00100001#32)) State.reset) = some 0x00100001#32 := by decide
theorem test_whiteiv_write :
    nextOf (fun t => t.reg .datawhiteiv) (exec (.datawhiteiv (.wr 0x25#32)) State.reset) = some 0x65#32 := by decide
theorem test_whiteiv_write_all_ones :
    nextOf (fun t => t.reg .datawhiteiv) (exec (.datawhiteiv (.wr 0xFF#32)) State.reset) = some 0x7F#32 := by decide
theorem test_crcpoly_even :
    nextOf (fun t => (t.reg .crcpoly, polyOf t.crcPoly)) (exec (.crcpoly (.wr 0x65A#32)) State.reset) =
      some (0x65A#32, 0x65B#24) := by decide
/-- R151, R11: the upper byte is stored, ignored, and reads 0. -/
theorem test_crcpoly_upper_byte :
    nextOf (fun t => (t.cfg.crcpoly, t.reg .crcpoly, t.crcPoly)) (exec (.crcpoly (.wr 0xAB00065B#32)) State.reset) =
      some (0xAB00065B#32, 0x65B#32, 0x65B#24) := by decide
/-- R173; spec/95_test_vectors.md, end state of `radio_init`: the radio is reset, CLOCK's event and state stay. -/
theorem test_power_down :
    nextOf (fun t => (t.powered, t.reg .mode, t.written.mode, t.evHfclkStarted, t.hfState))
        (exec (.power (.wr 0#32)) { ready with evHfclkStarted := true }) =
      some (false, 0#32, false, true, .running) := by decide
theorem test_unpowered_mode_read :
    refusalOf (exec (.mode .rd) { State.reset with powered := false }) = some .radioUnpowered := by decide
theorem test_power_up :
    nextOf (fun t => (t.powered, t.reg .datawhiteiv)) (exec (.power (.wr 1#32)) { State.reset with powered := false }) =
      some (true, 0x40#32) := by decide
theorem test_frequency_write_busy :
    refusalOf (exec (.frequency (.wr 4#32)) (inTx .tx .addr)) = some .configWhileBusy := by decide
theorem test_event_clear_busy :
    nextOf (fun t => t.events.disabled) (exec (.eventsDisabled (.wr 0#32)) ((inTx .tx .addr).setEvent .disabled true)) =
      some false := by decide
theorem test_txen_busy : refusalOf (exec (.tasksTxen (.wr 1#32)) (inTx .tx .addr)) = some .busy := by decide
theorem test_start_disabled : refusalOf (exec (.tasksStart (.wr 1#32)) State.reset) = some .badTaskState := by decide
theorem test_stop : refusalOf (exec (.tasksStop (.wr 1#32)) State.reset) = some .unsupported := by decide
theorem test_disable : refusalOf (exec (.tasksDisable (.wr 1#32)) State.reset) = some .unsupported := by decide
theorem test_intenset : refusalOf (exec (.intenset (.wr 1#32)) State.reset) = some .unsupported := by decide
theorem test_hfclk_start :
    nextOf (fun t => ((clockStep t).hfState, (clockStep t).evHfclkStarted))
      (exec (.clockTasksHfclkstart (.wr 1#32)) State.reset) = some (.running, true) := by decide
theorem test_hfclk_start_running :
    nextOf (fun t => t.evHfclkStarted) (exec (.clockTasksHfclkstart (.wr 1#32)) ready) = some true := by decide
theorem test_switchpattern_appends :
    nextOf (fun t => t.antPattern) (exec (.switchpattern (.wr 1#32)) { State.reset with antPattern := [1#8] }) =
      some [1#8, 1#8] := by decide
theorem test_clearpattern :
    nextOf (fun t => t.antPattern) (exec (.clearpattern (.wr 1#32)) { State.reset with antPattern := [1#8] }) =
      some [] := by decide
theorem test_state_read : nextOf (fun t => t.busData) (exec (.state .rd) (inTx .txdisable .done)) = some 12#32 := by
  decide
theorem test_dfectrl2_read_back :
    nextOf (fun t => t.tSwitchOffset) (exec (.dfectrl2 (.wr 0x00001FFF#32)) State.reset) = some (-1) := by decide

/-! ### Session start: L2.8 -/

theorem test_txen_at_reset : refusalOf (exec (.tasksTxen (.wr 1#32)) State.reset) = some .hfclkNotRunning := by decide
theorem test_txen_starts :
    nextOf (fun t => (t.radioState, t.session, t.dmaRegions)) (exec (.tasksTxen (.wr 1#32)) ready) =
      some (.txru, .tx, [{ start := 0x20000100, len := 41 }]) := by decide
theorem test_txen_misaligned :
    refusalOf (exec (.tasksTxen (.wr 1#32)) { ready with cfg := { cfg37 with packetptr := 0x20000101#32 } }) =
      some .misaligned := by decide
theorem test_txen_outside_ram :
    faultOf (exec (.tasksTxen (.wr 1#32)) { ready with cfg := { cfg37 with packetptr := 0x2001FFE0#32 } }) =
      some (.dmaOutsideRam 0x2001FFE0) := by decide
theorem test_txen_mode_four :
    refusalOf (exec (.tasksTxen (.wr 1#32)) { ready with cfg := { cfg37 with mode := 4#32 } }) =
      some (.notAdmitted [.mode]) := by decide
theorem test_txen_short_cte :
    refusalOf (exec (.tasksTxen (.wr 1#32)) { ready with cfg := { cfgCte with dfectrl1 := 0x00023281#32 } }) =
      some (.notAdmitted [.dfectrl1]) := by decide
theorem test_rxen_without_pointer :
    refusalOf (exec (.tasksRxen (.wr 1#32))
        { readyCte with written := { RegFile.all true with dfepacketPtr := false } }) =
      some (.unconfigured [.dfepacketPtr]) := by decide
theorem test_rxen_starts :
    nextOf (fun t => (t.radioState, t.dmaRegions)) (exec (.tasksRxen (.wr 1#32)) readyCte) =
      some (.rxru, [{ start := 0x20000200, len := 41 }, { start := 0x20000300, len := 512 }]) := by decide

/-! ### Pure functions: L1.1, L2.1 to L2.5, R156, R167 -/

theorem test_channel_offsets :
    [0, 9, 10, 11, 12, 36, 37, 38, 39, 40].map channelOffset =
      [some 4, some 22, some 24, some 28, some 30, some 78, some 2, some 26, some 80, none] := by decide
theorem test_set_channel_40 : setChannel MemMap.default 40 = [.refuse (.badChannel 40)] := by decide
/-- The defaults of R10 (D21, D23), with a switch offset. -/
def params (offset : Int) : Params :=
  { rxBufLen := 41
    iqMaxcnt := 128
    tSwitchOffset := offset
    tSampleOffset := 0
    antPattern := []
    txBuf := 0x20000100#32
    rxBuf := 0x20000200#32
    iqBuf := 0x20000300#32 }

theorem test_params_admitted :
    (params 0).admitted = true ∧ (params 0).rxCteLen = 20 ∧ { params 0 with tSwitchSpacing := 0 }.admitted = false ∧
      { params 0 with tSampleSpacing := 7 }.admitted = false := by decide
theorem test_dfectrl1_word : dfectrl1Word (params 0) 20 = 0x00023294#32 := by decide
theorem test_dfectrl2_word : dfectrl2Word (params (-1)) = 0x00001FFF#32 := by decide

/-- R98's address and the payload `AA`. -/
theorem test_pdu_encode :
    pduEncode 0xC60504030201#48 [0xAA#8] = .ok [0x42#8, 7#8, 1#8, 2#8, 3#8, 4#8, 5#8, 0xC6#8, 0xAA#8] := rfl
theorem test_pdu_encode_too_long :
    pduEncode 0xC60504030201#48 (List.replicate 32 0#8) = .error .badPayloadLength := rfl
theorem test_pdu_decode_match :
    pduDecode [0x42#8, 9#8, 1#8, 2#8, 3#8, 4#8, 5#8, 0xC6#8, 2#8, 1#8, 6#8, 0#8] 0xC60504030201#48 =
      .found 3 [2#8, 1#8, 6#8] := by decide
theorem test_pdu_decode_short_length :
    pduDecode [0x42#8, 5#8, 1#8, 2#8, 3#8, 4#8, 5#8, 0xC6#8, 2#8] 0xC60504030201#48 = .noMatch := by decide
theorem test_pdu_decode_other_address :
    pduDecode [0x42#8, 9#8, 0x11#8, 0x22#8, 0x33#8, 0x44#8, 0x55#8, 0xC6#8, 2#8, 1#8, 6#8] 0xC60504030201#48 =
      .noMatch := by decide
theorem test_pdu_decode_clamps :
    pduDecode ([0x42#8, 0x26#8, 1#8, 2#8, 3#8, 4#8, 5#8, 0xC6#8] ++ List.replicate 32 7#8) 0xC60504030201#48 =
      .found 31 (List.replicate 31 7#8) := by decide

/-- The §8 PDU. -/
def pdu8 : List Byte :=
  [0x42#8, 0x13#8, 1#8, 2#8, 3#8, 4#8, 5#8, 0xC6#8, 0x0B#8, 0x09#8, 0x65#8, 0x6D#8, 0x6C#8, 0x6F#8, 0x67#8, 0x69#8,
    0x63#8, 0x2E#8, 0x6E#8, 0x6F#8, 0#8]

theorem test_crc_of_the_example : crc24 0x555555#24 0x65B#24 (bitsLsb pdu8) = 0xFF66C5#24 := by decide +kernel
theorem test_crc_on_air_bytes :
    bytesOfStream 3 (crcBits 0xFF66C5#24) = [0xFF#8, 0x66#8, 0xA3#8] := by decide
theorem test_whiten_init : whitenInit 0x65#7 = 0x53#7 := by decide
theorem test_whiten_mask_37 :
    bytesOfStream 8 (whiten (whitenInit 0x65#7) (List.replicate 64 false)) =
      [0x8D#8, 0xD2#8, 0x57#8, 0xA1#8, 0x3D#8, 0xA7#8, 0x66#8, 0xB0#8] := by decide
theorem test_preamble : byteAt (preamble 0x8E89BED6#32) 0 = 0xAA#8 := by decide
theorem test_access_address : ready.accessAddress = 0x8E89BED6#32 := by decide
theorem test_iq_unpack : iqUnpack 0xFFFE0003#32 = { i := 3#16, q := BitVec.ofInt 16 (-2) } := by decide

/-! ### RADIO: L2.5, L2.6, L2.9 -/

theorem test_tx_frame :
    bytesOfStream 10 (inTx .tx .addr).txFrameBits =
      [0xAA#8, 0xD6#8, 0xBE#8, 0x89#8, 0x8E#8, 0xCF#8, 0xD2#8, 0x13#8, 0x1A#8, 0xDF#8] := by decide +kernel
theorem test_tx_six_steps :
    nextOf (fun t => (t.airLog.map fun r => (r.carrierMhz, bytesOfStream 10 r.bits, r.cte8us), t.radioState))
      (radioRun 6 (inTx .txru .done)) =
      some ([(2402, [0xAA#8, 0xD6#8, 0xBE#8, 0x89#8, 0x8E#8, 0xCF#8, 0xD2#8, 0x13#8, 0x1A#8, 0xDF#8], 0)],
        .disabled) := by decide +kernel
theorem test_tx_overlong :
    refusalOf (radioStep { inTx .tx .payload with ram := [(0x20000100, 0x42#8), (0x20000101, 40#8)] }) =
      some .txLengthOverMaxlen := by decide
theorem test_rx_stores :
    nextOf (fun t => (t.ram, t.curLen)) (radioStep (received .payload)) =
      some ([(0x20000200, 0x42#8), (0x20000201, 0#8)], 0#8) := by decide
theorem test_rx_crc_ok :
    nextOf (fun t => (t.rxCrc, t.crcStatus, t.events.crcok, t.events.crcerror)) (radioRun 2 (received .payload)) =
      some (0x22DD47#24, true, true, false) := by decide +kernel
theorem test_rx_capture :
    nextOf (fun t => (t.amount, t.ramBytes 0x20000300 5, t.radioState)) (radioStep (received .cte)) =
      some (2#16, [0x03#8, 0x00#8, 0xFE#8, 0xFF#8, 0xFF#8], .rxdisable) := by decide
theorem test_air_other_carrier :
    (airStep { inRx .rx .search with airIn := [{ frame with carrier := 2426 }] }).phase = .search := by decide
theorem test_air_delivers :
    (airStep { inRx .rx .search with airIn := [frame] }).whiteLfsr = 0x53#7 := by decide

/-! ### HOST: L2.10, L3.4 -/

theorem test_buffer_race :
    faultOf (hostStep (host (inTx .tx .addr) (.store 0x20000100#32 [0#8]))) = some (.dmaBufferRace 0x20000100) := by
  decide
/-- R73: a register image in RAM, least significant byte at the lowest address. -/
theorem test_store_register_image :
    nextOf (fun t => t.ramBytes 0x20000200 4)
      (hostStep (host (ready.bindWord 0 0x89BED600#32) (.storeWord 0x20000200#32 0))) =
      some [0x00#8, 0xD6#8, 0xBE#8, 0x89#8] := by decide
/-- One byte of a session in flight and one outside RAM: the refusal (assumption 33). -/
theorem test_race_outside_ram :
    refusalOf (hostStep (host { inTx .tx .addr with memMap := { MemMap.default with ramSize := 0x129 } }
      (.load 0x20000128#32 (.lit 2) 0))) = some (.outsideBlock 0x20000129) := by decide
theorem test_host_load_after_session :
    nextOf (fun t => t.byteVars) (hostStep (host { ready with ram := [(0x20000203, 7#8)] }
      (.load 0x20000203#32 (.lit 1) 0))) = some [(0, [7#8])] := by decide
theorem test_poll_waits :
    nextOf (fun t => t.hpc) (hostStep (host State.reset (.poll (rdAt 0x40000100#32) 1#32))) = some 0 := by decide
theorem test_early_session :
    refusalOf (step (host State.reset (.bus (wrAt 0x40001000#32 1#32) none))) = some .hfclkNotRunning := by decide

/-- The fetch word of a row runs as the first step after reset. -/
theorem test_fetch_word :
    nextOf (fun t => t.hfState) (step (State.reset.withFetchWord 96 0x000000010000000240000000)) = some .starting ∧
      nextOf (fun t => t.pduResult) (step (State.reset.withFetchWord 8 0x42)) = some .noMatch := by decide

/-! ### Witnesses: the hypotheses of each statement can be met -/

theorem witness_AccessBitsDecodeToTheInstruction :
    (Instr.power (.wr 0xFFFFFFFF#32)).busAccess MemMap.default = some (wrAt 0x40001FFC#32 0xFFFFFFFF#32) := rfl

theorem witness_EncodedInstructionsDecodeToThemselves :
    (Instr.advNonconnInd 255#8 0xFFFFFFFFFFFF#48 (List.replicate 31 9#8)).wf = true ∧
      (Instr.crcstatus .rd).wf = true ∧ (Instr.clearpattern (.wr 1#32)).wf = true ∧ MemMap.default.admitted = true ∧
      ({ ramBase := 0xFFFFE000, ramSize := 0x1000, radioBase := 0xFFFFF000, clockBase := 0 } : MemMap).admitted =
        true := by decide

theorem witness_DecodedCodesAreTheEncodings :
    decode MemMap.default (.bus (rdAt 0x40001400#32)) = .ok (.crcstatus .rd) ∧ (rdAt 0x40001400#32).data = 0#32 ∧
      decode MemMap.default (.pdu [0x42#8, 6#8, 0#8, 0#8, 0#8, 0#8, 0#8, 1#8]) =
        .ok (.advNonconnInd 6#8 0x010000000000#48 []) := ⟨rfl, rfl, rfl⟩

/-- One access for each clause: width, alignment, no row, direction. -/
theorem witness_IllegalAccessesAreRefused :
    ({ rdAt 0x40001400#32 with size := .bits8 } : BusAccess).size ≠ .bits32 ∧
      (rdAt 0x40001401#32).addr.toNat % 4 ≠ 0 ∧
      (∀ row ∈ regTable, row.addr State.reset.memMap ≠ (rdAt 0x40001540#32).addr.toNat) ∧
      (∀ row ∈ regTable, row.addr State.reset.memMap ≠ (rdAt 0x40002000#32).addr.toNat) ∧
      State.reset.memMap.admitted = true ∧
      ∃ row ∈ regTable, row.addr State.reset.memMap = (rdAt 0x40001000#32).addr.toNat ∧
        row.access.allows (rdAt 0x40001000#32).op = false := by
  refine ⟨by decide, by decide, by decide, by decide, by decide, ⟨.radio, 0, .w1, .tasksTxen⟩, ?_, rfl, rfl⟩
  simp [regTable, taskRows]

/-- HOST's turn at a write of 0 to EVENTS_DISABLED, and at a PduDecode of a 39-byte buffer. -/
theorem witness_StepRunsTheDecodedInstruction :
    (let s := host State.reset (.bus (wrAt 0x40001110#32 0#32) none)
     s.fault = none ∧ s.refused = none ∧ s.nextAgent = .host ∧
       s.script[s.hpc]? = some (.bus (wrAt 0x40001110#32 0#32) none) ∧
       decode s.memMap (.bus (wrAt 0x40001110#32 0#32)) = .ok (.eventsDisabled (.wr 0#32)) ∧
       (Instr.eventsDisabled (.wr 0#32)).wf = true) ∧
    (let s := host (State.reset.bindBytes 0 (0x42#8 :: 6#8 :: List.replicate 37 0#8)) (.pduDecode 0 0#48)
     s.fault = none ∧ s.refused = none ∧ s.nextAgent = .host ∧ s.script[s.hpc]? = some (.pduDecode 0 0#48) ∧
       decode s.memMap (.pdu (s.pduImageOf 0)) = .ok (.advNonconnInd 6#8 0#48 (List.replicate 31 0#8))) :=
  ⟨⟨rfl, rfl, rfl, rfl, rfl, rfl⟩, rfl, rfl, rfl, rfl, rfl⟩

/-- A clock that is starting, and then HOST, whose refusal ends the run. -/
def startingRun : State :=
  { host State.reset (.refuse .unsupported) with hfState := .starting, turns := [.clock, .host] }

/-- A transmit session that is ramping up, RADIO's six steps, and then HOST, whose refusal ends the run. -/
def sendingRun : State :=
  { host (inTx .txru .done) (.refuse .unsupported) with turns := List.replicate 6 .radio ++ [.host] }

theorem startingRun_stops : (startingRun.runState 2).stopped = true := by decide
theorem sendingRun_stops : (sendingRun.runState 7).stopped = true := by decide +kernel

/-- Both runs are fair, and the clock runs, the session ends, before HOST stops them. -/
theorem witness_FairRunsMakeProgress :
    (FairRun startingRun ∧ startingRun.hfState = .starting ∧ (startingRun.runState 1).stopped = false) ∧
    (FairRun sendingRun ∧ sendingRun.radioEnabled = true ∧ sendingRun.radioState = .txru ∧
      sendingRun.readyStart = true ∧ sendingRun.phyendDisable = true ∧ (sendingRun.runState 6).stopped = false) :=
  ⟨⟨fairRun_of_stops startingRun_stops, rfl, by decide⟩, fairRun_of_stops sendingRun_stops, by decide, rfl, by decide,
    by decide, by decide +kernel⟩

/-- A poll that reads 0, for the value 1 (it waits) and for the value 0 (it goes on). -/
theorem witness_PollAdvancesOnlyOnTheValue :
    (let s := host State.reset (.poll (rdAt 0x40000100#32) 1#32)
     s.fault = none ∧ s.refused = none ∧ s.nextAgent = .host ∧
       s.script[s.hpc]? = some (.poll (rdAt 0x40000100#32) 1#32) ∧
       nextOf (fun t => t.busData) (busAccess { rdAt 0x40000100#32 with dir := .rd } s.beginTurn) = some 0#32) ∧
    (let s := host State.reset (.poll (rdAt 0x40000100#32) 0#32)
     s.fault = none ∧ s.refused = none ∧ s.nextAgent = .host ∧
       s.script[s.hpc]? = some (.poll (rdAt 0x40000100#32) 0#32) ∧
       nextOf (fun t => t.busData) (busAccess { rdAt 0x40000100#32 with dir := .rd } s.beginTurn) = some 0#32) := by
  decide

/-- A step that faults, and one that is refused. -/
theorem witness_AStoppedRunStaysStopped :
    (let s := host (inTx .tx .addr) (.store 0x20000128#32 [0#8])
     s.fault = none ∧ s.refused = none ∧ step s = .fault (.dmaBufferRace 0x20000128)) ∧
    (let s := host State.reset (.bus (wrAt 0x40001000#32 1#32) none)
     s.fault = none ∧ s.refused = none ∧ step s = .refused .hfclkNotRunning) :=
  ⟨⟨rfl, rfl, rfl⟩, ⟨rfl, rfl, rfl⟩⟩

/-- A state in the middle of a reception satisfies the invariant. -/
theorem received_inv : Inv (received .payload) := by
  constructor <;> first | (intro r; cases r <;> rfl) | decide

/-- A step of the reception, from a state that satisfies the invariant. -/
theorem witness_EveryStepKeepsTheInvariant :
    Inv (received .payload) ∧ ∃ t, step (received .payload) = .next t := ⟨received_inv, _, rfl⟩

/-- The bytes just before and just after the packet region, at a step that writes RAM. -/
theorem witness_RadioWritesOnlyItsDmaRegions :
    Inv (received .payload) ∧ (∃ t, radioStep (received .payload) = .next t) ∧
      (received .payload).inDma 0x200001FF = false ∧ (received .payload).inDma 0x20000229 = false :=
  ⟨received_inv, ⟨_, rfl⟩, by decide, by decide⟩

/-- A HOST store just past the packet region, and the last byte of the region. -/
theorem witness_HostLeavesTheDmaRegions :
    let s := host (inTx .tx .addr) (.store 0x20000129#32 [7#8])
    s.session ≠ .none ∧ (∃ t, hostStep s = .next t) ∧ s.inDma 0x20000128 = true :=
  ⟨nofun, ⟨_, rfl⟩, by decide⟩

/-- TXEN, and a POWER write with bit 0 set. -/
theorem witness_OnlyPowerDownWritesStatusFromHost :
    (∃ t, exec (.tasksTxen (.wr 1#32)) ready = .next t) ∧
      (∀ d : Word, d.getLsbD 0 = false → Instr.tasksTxen (.wr 1#32) ≠ .power (.wr d)) ∧
      (∃ t, exec (.power (.wr 1#32)) ready = .next t) ∧
      ∀ d : Word, d.getLsbD 0 = false → Instr.power (.wr 1#32) ≠ .power (.wr d) := by
  refine ⟨⟨_, rfl⟩, nofun, ⟨_, rfl⟩, fun d hd h => ?_⟩
  cases h
  simp at hd

theorem witness_RegisterReadsHaveNoSideEffect :
    (Instr.eventsReady .rd).op = some .rd ∧ ∃ t, exec (.eventsReady .rd) (inTx .tx .addr) = .next t :=
  ⟨rfl, _, rfl⟩

theorem witness_InstructionsLeaveMemoryAndAgentsAlone :
    (∃ t, exec (.tasksRxen (.wr 1#32)) readyCte = .next t) ∧ ∃ t, exec (.power (.wr 0#32)) ready = .next t :=
  ⟨⟨_, rfl⟩, _, rfl⟩

/-- A clock that is starting, one that is not, and a step while it runs. -/
theorem witness_TheHfClockNeverStops :
    ({ State.reset with hfState := .starting } : State).hfState = .starting ∧ State.reset.hfState ≠ .starting ∧
      (∃ t, step { ready with turns := [.clock] } = .next t) ∧ ({ ready with turns := [.clock] } : State).hfState = .running :=
  ⟨rfl, nofun, ⟨_, rfl⟩, rfl⟩

/-- A step that logs a record. -/
theorem witness_TheAirLogOnlyGrows :
    ∃ t, step { inTx .tx .cte with turns := [.radio] } = .next t ∧ t.airLog ≠ (inTx .tx .cte).airLog :=
  ⟨_, rfl, by decide⟩

/-- An unpowered radio, an access to it, and POWER and CLOCK accesses beside it. -/
theorem witness_AnUnpoweredRadioIsRefused :
    ({ State.reset with powered := false } : State).powered = false ∧ isGatedByPower (.mode .rd) = true ∧
      (Instr.mode .rd).wf = true ∧ isGatedByPower (.tasksTxen .rd) = true ∧ (Instr.tasksTxen .rd).wf = false ∧
      isGatedByPower (.power (.wr 1#32)) = false ∧
      ∃ t, exec (.clockTasksHfclkstart (.wr 1#32)) { State.reset with powered := true } = .next t :=
  ⟨rfl, rfl, rfl, rfl, rfl, rfl, _, rfl⟩

/-- A transmission and a reception in phase DONE, a radio waiting in TXIDLE at RADIO's turn, and in RXIDLE at a HOST
poll, and at a HOST write of 0 to TASKS_START. -/
theorem witness_ARadioThatIsDoneHangs :
    (∃ t, step { inTx .tx .done with turns := [.radio] } = .next t) ∧
      (∃ t, step { received .done with turns := [.clock] } = .next t) ∧
      (∃ t, step { inTx .txidle .done with turns := [.radio] } = .next t) ∧
      (∃ t, step (host (inRx .rxidle .done) (.poll (rdAt 0x40001110#32) 1#32)) = .next t) ∧
      (∃ t, step (host (inRx .rxidle .done) (.bus (wrAt 0x40001008#32 0#32) none)) = .next t) ∧
      decode MemMap.default (.bus (wrAt 0x40001008#32 0#32)) = .ok (.tasksStart (.wr 0#32)) :=
  ⟨⟨_, rfl⟩, ⟨_, rfl⟩, ⟨_, rfl⟩, ⟨_, rfl⟩, ⟨_, rfl⟩, rfl⟩

/-- Two different states that differ in unloaded registers only. -/
theorem witness_UnloadedRegistersAreNeverRead :
    ready.forget = ({ ready with crcReg := 1#24, phase := .search } : State).forget ∧
      ready ≠ { ready with crcReg := 1#24, phase := .search } ∧
      (inRx .rx .search).forget = ({ inRx .rx .search with rxFrame := frame, curLen := 9#8 } : State).forget :=
  ⟨rfl, by decide, rfl⟩

theorem witness_ClearAndSignalInEitherOrder : (inTx .tx .addr).powered = true := rfl

theorem witness_StopAndDisableAreUnsupported :
    State.reset.powered = true ∧ (1#32).getLsbD 0 = true ∧ (0xFFFFFFFE#32).getLsbD 0 = false := by decide

theorem witness_HfclkStartedEventAccess : (0x80000000#32 : Word) ≠ 0#32 := by decide

theorem witness_RadioEventAccess :
    (inTx .tx .addr).powered = true ∧ Event.end_ ≠ Event.ready ∧ (1#32 : Word) ≠ 0#32 := by decide

theorem witness_ConfigurationReadReturnsItsFields : (inTx .tx .addr).powered = true := rfl

theorem witness_StatusReadsReturnTheirFields : (received .crc).powered = true := rfl

/-- The ends of the index ranges. -/
theorem witness_ChannelMapMatchesTheAlgorithm :
    0 ≤ 10 ∧ 11 ≤ 11 ∧ 36 ≤ 36 ∧ 39 < 40 ∧ channelOffset 0 = some 4 ∧ channelOffset 39 = some 80 := by decide

/-- A packet region that ends exactly at the end of RAM: PACKETPTR 0x2001FFD4 with MAXLEN 42. -/
def readyAtTheEnd : State :=
  { ready with cfg := { cfg37 with packetptr := 0x2001FFD4#32, pcnf1 := 0x0203002A#32 } }

theorem witness_TxenStartsATransmitSession :
    let s := readyAtTheEnd
    s.powered = true ∧ (1#32).getLsbD 0 = true ∧ (2#32).getLsbD 0 = false ∧ s.session = .none ∧
      s.radioState = .disabled ∧ s.hfState = .running ∧
      (∀ r ∈ s.usedRegs .tx, s.written.get r = true ∧ s.admitted r = true) ∧ s.packetPtr % 4 = 0 ∧
      MemMap.default.ramBase ≤ s.packetPtr ∧ s.packetPtr + (2 + s.maxlen) = MemMap.default.ramBase + MemMap.default.ramSize := by decide

/-- Without a CTE and with one. -/
theorem witness_RxenStartsAReceiveSession :
    (∀ s ∈ [readyAtTheEnd, readyCte], s.powered = true ∧ s.session = .none ∧ s.radioState = .disabled ∧
      s.hfState = .running ∧ (∀ r ∈ s.usedRegs .rx, s.written.get r = true ∧ s.admitted r = true) ∧
      s.packetPtr % 4 = 0 ∧ MemMap.default.ramBase ≤ s.packetPtr ∧
      s.packetPtr + (2 + s.maxlen) ≤ MemMap.default.ramBase + MemMap.default.ramSize ∧
      (s.cteEnabled = true → s.iqPtr % 4 = 0 ∧ MemMap.default.ramBase ≤ s.iqPtr ∧
        s.iqPtr + 4 * s.iqMaxcnt ≤ MemMap.default.ramBase + MemMap.default.ramSize)) ∧
      readyAtTheEnd.cteEnabled = false ∧ readyCte.cteEnabled = true := by decide

/-- One state for each clause: busy, no clock, unwritten, not admitted, misaligned packet, misaligned IQ buffer, outside
RAM, an IQ buffer outside RAM. -/
theorem witness_SessionStartStopsInOrder :
    (inTx .tx .addr).session ≠ .none ∧
    (State.reset.session = .none ∧ State.reset.radioState = .disabled ∧ State.reset.hfState ≠ .running) ∧
    (let s := { ready with written := RegFile.all false }
     s.hfState = .running ∧ ∃ r ∈ s.usedRegs .tx, s.written.get r = false) ∧
    (let s := { ready with cfg := { cfg37 with mode := 4#32 } }
     (∀ r ∈ s.usedRegs .tx, s.written.get r = true) ∧ ∃ r ∈ s.usedRegs .tx, s.admitted r = false) ∧
    (let s := { ready with cfg := { cfg37 with packetptr := 0x20000101#32 } }
     (∀ r ∈ s.usedRegs .tx, s.written.get r = true ∧ s.admitted r = true) ∧ s.packetPtr % 4 ≠ 0) ∧
    (let s := { ready with cfg := { cfgCte with dfepacketPtr := 0x20000302#32 } }
     (∀ r ∈ s.usedRegs .rx, s.written.get r = true ∧ s.admitted r = true) ∧ s.packetPtr % 4 = 0 ∧
        s.cteEnabled = true ∧ s.iqPtr % 4 ≠ 0) ∧
    (let s := { ready with cfg := { cfg37 with packetptr := 0x2001FFD8#32 } }
     (∀ r ∈ s.usedRegs .tx, s.written.get r = true ∧ s.admitted r = true) ∧ s.packetPtr % 4 = 0 ∧
        s.packetRegion.inRam s.memMap = false) ∧
    (let s := { ready with cfg := { cfgCte with dfepacketPtr := 0x2001FE04#32 } }
     (∀ r ∈ s.usedRegs .rx, s.written.get r = true ∧ s.admitted r = true) ∧ s.packetPtr % 4 = 0 ∧ s.iqPtr % 4 = 0 ∧
        s.cteEnabled = true ∧ s.packetRegion.inRam s.memMap = true ∧ s.iqRegion.inRam s.memMap = false) := by decide

/-- START in each idle state, and elsewhere. -/
theorem witness_HostStartLeavesIdle :
    (inTx .txidle .done).powered = true ∧ (inTx .txidle .done).radioState = .txidle ∧
      (inRx .rxidle .done).powered = true ∧ (inRx .rxidle .done).radioState = .rxidle ∧
      ready.radioState ≠ .txidle ∧ ready.radioState ≠ .rxidle ∧ (3#32).getLsbD 0 = true ∧
      (2#32).getLsbD 0 = false := by decide

/-- The three clock states. -/
theorem witness_HfclkStartByClockState :
    State.reset.hfState = .off ∧ State.reset.startHfclk.hfState = .starting ∧ ready.hfState = .running ∧
      (1#32).getLsbD 0 = true ∧ (0xFFFFFFFE#32).getLsbD 0 = false := by decide

/-- A SHORTS word of supported bits, and a word of bits outside every field at another register. -/
theorem witness_ConfigurationWriteStoresItsFields :
    ready.powered = true ∧ ready.session = .none ∧ ready.radioState = .disabled ∧
      0x00100001#32 &&& ~~~0x00100001#32 = 0#32 ∧ (CfgReg.mode = .shorts → False) := by decide

/-- A session in flight, and a session marked over outside DISABLED. -/
theorem witness_BusyWritesAreRefused :
    (inTx .tx .addr).powered = true ∧ (inTx .tx .addr).session ≠ .none ∧
      ({ inTx .txdisable .done with session := .none } : State).radioState ≠ .disabled ∧
      CfgReg.mode ≠ .shorts ∧ (0#32 : Word) &&& ~~~0x00100001#32 = 0#32 := by decide

/-- The bits next to the two supported ones; a word of these two; an idle and a busy radio. -/
theorem witness_ShortsHoldsTheTwoShortcuts :
    State.reset.powered = true ∧ (0x80380003#32).getLsbD 1 = true ∧ (0x80380003#32).getLsbD 19 = true ∧
      (0x80380003#32).getLsbD 21 = true ∧ (0x80380003#32).getLsbD 31 = true ∧
      (∀ k < 32, (0x00100001#32).getLsbD k = true → k = 0 ∨ k = 20) ∧ State.reset.session = .none ∧
      State.reset.radioState = .disabled ∧ (inTx .tx .addr).session ≠ .none := by decide

theorem witness_InterruptEnablesAreRefusedAndHeldAtZero :
    ready.powered = true ∧ ({ ready with turns := [.clock] } : State).intMask = 0#32 ∧
      ∃ t, step { ready with turns := [.clock] } = .next t := ⟨rfl, rfl, _, rfl⟩

/-- An idle radio with something to reset. -/
theorem witness_PowerCycleResetsTheRadio :
    ready.session = .none ∧ ready.radioState = .disabled ∧ (0#32).getLsbD 0 = false ∧ (1#32).getLsbD 0 = true := by
  decide

theorem witness_PatternWritesBuildTheList :
    ready.powered = true ∧ (inTx .tx .addr).powered = true ∧ (inTx .tx .addr).session ≠ .none ∧ ready.session = .none ∧ ready.radioState = .disabled ∧ (0x1FF#32).getLsbD 0 = true ∧
      (0x1FE#32).getLsbD 0 = false := by decide

/-- Both ramp-up states, with the shortcut and without it. -/
theorem witness_RampUpReachesIdleOrStarts :
    (inTx .txru .done).powered = true ∧ (inTx .txru .done).radioState = .txru ∧
      (inTx .txru .done).readyStart = true ∧ (inRx .rxru .done).radioState = .rxru ∧
      ({ inRx .rxru .done with cfg := { cfgCte with shorts := 0#32 } } : State).readyStart = false := by decide

theorem witness_DisableStepEndsTheSession :
    (inTx .txdisable .done).powered = true ∧ (inTx .txdisable .done).radioState = .txdisable ∧
      (inRx .rxdisable .done).radioState = .rxdisable := by decide

/-- One state for each clause. -/
theorem witness_NoRadioStepWhenNoneIsEnabled :
    ready.radioEnabled = false ∧ ({ inTx .tx .addr with powered := false } : State).powered = false ∧ ready.radioState = .disabled ∧
      (inTx .txidle .done).radioState = .txidle ∧ (inRx .rxidle .done).radioState = .rxidle ∧
      ((inTx .tx .done).radioState = .tx ∧ (inTx .tx .done).phase = .done) ∧
      ((inRx .rx .done).radioState = .rx ∧ (inRx .rx .done).phase = .done) ∧
      ((inRx .rx .search).radioState = .rx ∧ (inRx .rx .search).phase = .search) := by decide

/-- The shortest packet, and one whose LENGTH is exactly MAXLEN. -/
theorem witness_TransmitSessionLogsTheFrame :
    let s := inTx .txru .done
    let u := { s with ram := [(0x20000100, 0x42#8), (0x20000101, 39#8)] }
    s.powered = true ∧ s.radioState = .txru ∧ s.readyStart = true ∧ s.phyendDisable = true ∧
      (s.ramByte (s.packetPtr + 1)).toNat ≤ s.maxlen ∧ (u.ramByte (u.packetPtr + 1)).toNat = u.maxlen := by decide

/-- LENGTH one above MAXLEN. -/
theorem witness_OverlongTransmissionsAreRefused :
    let s := { inTx .tx .payload with ram := [(0x20000100, 0x42#8), (0x20000101, 40#8)] }
    s.powered = true ∧ s.radioState = .tx ∧ s.phase = .payload ∧
      s.maxlen + 1 = (s.ramByte (s.packetPtr + 1)).toNat := by decide

/-- A matching transmission, another carrier, another access address; and a list that is used up. -/
theorem witness_OnlyMatchingFramesAreReceived :
    let s := { inRx .rx .search with airIn := [frame] }
    s.airIn = frame :: [] ∧ s.nextAir = some frame ∧ (inRx .rx .search).airIn = [] ∧ s.powered = true ∧ s.radioState = .rx ∧ s.phase = .search ∧
      frame.carrier = 2400 + s.freqOffset.toNat ∧ frame.aa = s.accessAddress ∧
      ({ frame with carrier := 2403 } : AirFrame).carrier ≠ 2400 + s.freqOffset.toNat ∧
      ({ frame with aa := 0x8E89BED7#32 } : AirFrame).aa ≠ s.accessAddress := by decide

theorem witness_ReceivePayloadStoresAtMostMaxlen :
    (received .payload).powered = true ∧ (received .payload).radioState = .rx ∧ (received .payload).phase = .payload := by
  decide

/-- LENGTH at MAXLEN, and one above it. -/
theorem witness_ReceiveCrcStepReportsTheCheck :
    (received .crc).powered = true ∧ (received .crc).radioState = .rx ∧ (received .crc).phase = .crc ∧
      ({ received .crc with curLen := 39#8 } : State).curLen.toNat ≤ (received .crc).maxlen ∧
      (received .crc).maxlen < ({ received .crc with curLen := 40#8 } : State).curLen.toNat := by decide

/-- A capture with a CTE, and a session without one. -/
theorem witness_CaptureWritesTheIqWords :
    (received .cte).powered = true ∧ (received .cte).radioState = .rx ∧ (received .cte).phase = .cte ∧
      (received .cte).cteEnabled = true ∧ ({ received .cte with cfg := cfg37 } : State).cteEnabled = false := by decide

/-- The frame of the transmit session, delivered to the receive session. -/
theorem witness_ReceptionRecoversTheTransmittedPacket :
    let a := inTx .txru .done
    let f := { frame with bits := a.txFrameBits.drop 40 ++ [true] }
    let b := { inRx .rx .search with airIn := [f] }
    a.whiteen = b.whiteen ∧ a.whiteIv = b.whiteIv ∧ a.crcInit = b.crcInit ∧ a.crcPoly = b.crcPoly ∧
      (a.ramByte (a.packetPtr + 1)).toNat ≤ b.maxlen ∧ b.airIn = f :: [] ∧ b.hears f = true ∧
      f.bits = a.txFrameBits.drop 40 ++ [true] :=
  ⟨rfl, rfl, rfl, rfl, by decide, rfl, rfl, rfl⟩

/-- The first and the last bit of the shortest PDU and its CRC. -/
theorem witness_CrcDetectsEverySingleBitError :
    0 < ([] : List Bool).length + 24 ∧ 23 < ([] : List Bool).length + 24 := by decide

theorem witness_CrcIsLinearFromZero : [true, false].length = [false, true].length := rfl

/-- The smallest and the largest steps of the period clause, from a register the channel 37 seed loads. -/
theorem witness_WhiteningHasPeriod127 : whitenInit 0x65#7 ≠ 0#7 ∧ 0 < 1 ∧ 1 < 127 ∧ 126 < 127 := by decide

theorem witness_EncodedPduLength :
    ([] : List Byte).length ≤ 31 ∧ (List.replicate 31 0#8).length ≤ 31 := by decide

theorem witness_EncodedPduDecodesToItsPayload :
    (List.replicate 31 0#8).length ≤ 31 ∧ (1#48 : BitVec 48) ≠ 0#48 := by decide

/-- LENGTH at 5 and at 6, the address equal and not. -/
theorem witness_PduRowComparesTheAddress :
    (5#8 : Byte).toNat < 6 ∧ 6 ≤ (6#8 : Byte).toNat ∧ (0#48 : BitVec 48) = State.reset.filterAddr ∧
      (1#48 : BitVec 48) ≠ State.reset.filterAddr := by decide

/-- A store, a store of a register image and a load whose third byte is the first of the packet region. -/
theorem witness_BufferRacesFault :
    let s := host (inTx .tx .addr) (.store 0x200000FE#32 [1#8, 2#8, 3#8])
    let u := host (inTx .tx .addr) (.load 0x200000FE#32 (.lit 3) 0)
    let w := host (inTx .tx .addr) (.storeWord 0x200000FE#32 0)
    w.script[w.hpc]? = some (.storeWord 0x200000FE#32 0) ∧
    s.session ≠ .none ∧ MemMap.default.ramBase ≤ (0x200000FE#32 : Word).toNat ∧
      (0x200000FE#32 : Word).toNat + 3 ≤ MemMap.default.ramBase + MemMap.default.ramSize ∧
      s.inDma ((0x200000FE#32 : Word).toNat + 2) = true ∧
      (∀ j < 2, s.inDma ((0x200000FE#32 : Word).toNat + j) = false) ∧
      s.script[s.hpc]? = some (.store 0x200000FE#32 [1#8, 2#8, 3#8]) ∧
      u.script[u.hpc]? = some (.load 0x200000FE#32 (.lit 3) 0) ∧ u.eval (.lit 3) = 3 := by decide

/-- The last byte of RAM, a register image in its last four bytes, and a load beside a session's region. -/
theorem witness_HostStoresAndLoadsComplete :
    let s := host ready (.store 0x2001FFFF#32 [1#8])
    let u := host (inTx .tx .addr) (.load 0x20000129#32 (.lit 2) 0)
    let w := host ready (.storeWord 0x2001FFFC#32 0)
    w.script[w.hpc]? = some (.storeWord 0x2001FFFC#32 0) ∧
    (0x2001FFFC#32 : Word).toNat + 4 = MemMap.default.ramBase + MemMap.default.ramSize ∧
    MemMap.default.ramBase ≤ (0x2001FFFF#32 : Word).toNat ∧
      (0x2001FFFF#32 : Word).toNat + 1 = MemMap.default.ramBase + MemMap.default.ramSize ∧ s.session = .none ∧
      s.script[s.hpc]? = some (.store 0x2001FFFF#32 [1#8]) ∧
      (∀ k < 2, u.inDma ((0x20000129#32 : Word).toNat + k) = false) ∧
      u.script[u.hpc]? = some (.load 0x20000129#32 (.lit 2) 0) ∧ u.eval (.lit 2) = 2 := by decide

end Sys2Proof.Tests
end

section
/-!
PROOFS. The interrupt enable mask (R27): HOST cannot reach it through INTENSET or INTENCLR, a power-down is the only
turn that writes it and writes 0, and every other turn of every agent leaves it as it is.
-/

namespace Sys2Proof.Machine

/-! ### The accesses -/

/-- R27, R273: every access to INTENSET is an unsupported one, once R175 lets it through. -/
theorem exec_intenset (op : BusOp) (s : State) :
    exec (.intenset op) s = s.ifPowered (.refused .unsupported) := rfl

/-- R27, R273: every access to INTENCLR is an unsupported one, once R175 lets it through. -/
theorem exec_intenclr (op : BusOp) (s : State) :
    exec (.intenclr op) s = s.ifPowered (.refused .unsupported) := rfl

/-- R175: what is refused behind the power guard is refused in every state, with its own reason when powered. -/
theorem ifPowered_refused (s : State) (r : Refusal) :
    ∃ x, s.ifPowered (.refused r) = .refused x ∧ (s.powered = true → x = r) := by
  cases hp : s.powered with
  | true => exact ⟨r, ifPowered_of_powered hp _, fun _ => rfl⟩
  | false => exact ⟨.radioUnpowered, ifPowered_of_unpowered hp _, nofun⟩

/-! ### HOST's turn -/

/-- R27, R60: a power-down clears the mask and no other instruction writes it. -/
theorem ExecEffect.intMask_eq {s t : State} (h : ExecEffect s t) : t.intMask = s.intMask ∨ t.intMask = 0#32 := by
  cases h with
  | powerDown _ => exact .inr s.powerDown_intMask
  | same | clearHfEvent | powerUp _ | pdu _ => exact .inl rfl
  | read _ | hfclk | session _ _ _ _ | start _ _ | clearEvent _ _ | write _ _ _ _ | pattern _ _ _ | noPattern _ _ =>
    exact .inl (by simp)

@[simp] theorem State.finishBus_intMask (bind : Option Nat) (s : State) :
    (s.finishBus bind).intMask = s.intMask := by
  cases bind <;> simp [State.finishBus]

@[simp] theorem State.finishPoll_intMask (v : Word) (s : State) : (s.finishPoll v).intMask = s.intMask := by
  unfold State.finishPoll
  split
  · exact s.advance_intMask
  · rfl

/-- R27: a statement of HOST writes the mask only through the instruction it runs. -/
theorem HostEffect.intMask_eq {s t : State} (h : HostEffect s t) : t.intMask = s.intMask ∨ t.intMask = 0#32 := by
  cases h with
  | bus u hu bind => simpa using hu.intMask_eq
  | poll u hu v => simpa using hu.intMask_eq
  | idle => exact .inl rfl
  | pdu _ _ | store _ _ _ _ | load _ _ | jump _ | ret _ => exact .inl (by simp)

/-! ### The other agents' turns -/

/-- R191: no row of the step table touches the mask. -/
theorem RadioEffect.intMask_eq {s t : State} (h : RadioEffect s t) : t.intMask = s.intMask := by
  cases h <;> simp

/-- R172: CLOCK's turn leaves the mask. -/
@[simp] theorem clockStep_intMask (s : State) : (clockStep s).intMask = s.intMask := by
  unfold clockStep
  split <;> rfl

/-- R137: AIR's turn leaves the mask. -/
theorem AirEffect.intMask_eq {s t : State} (h : AirEffect s t) : t.intMask = s.intMask := by
  cases h with
  | silent | unheard => rfl
  | deliver f _ => exact s.rxDeliver_intMask f

/-! ### The step -/

/-- R27, R170: a turn of any agent leaves the mask or clears it. -/
theorem agentStep_intMask {a : Agent} {s t : State} (h : agentStep a s = .next t) :
    t.intMask = s.intMask ∨ t.intMask = 0#32 := by
  cases a with
  | host => exact (hostStep_effect h).intMask_eq
  | radio => exact .inl (radioStep_effect h).intMask_eq
  | clock => cases h; exact .inl (clockStep_intMask s)
  | air => cases h; exact .inl (airStep_effect s).intMask_eq

/-- R27: a mask at 0 stays at 0. -/
theorem step_intMask_zero {s t : State} (h0 : s.intMask = 0#32) (h : step s = .next t) : t.intMask = 0#32 := by
  obtain ⟨-, -, hturn⟩ := step_next h
  obtain hkept | hcleared := agentStep_intMask hturn
  · rw [hkept, State.beginTurn_intMask, h0]
  · exact hcleared

/-- Settles O35: each access to INTENSET or INTENCLR is the same refusal, the mask is 0 at reset, and every step, being
some agent's turn, leaves it or clears it. -/
theorem interruptEnablesAreRefusedAndHeldAtZero : Obligations.InterruptEnablesAreRefusedAndHeldAtZero := by
  refine ⟨fun s op => ?_, rfl, fun s t => step_intMask_zero⟩
  obtain ⟨x, hx, hreason⟩ := ifPowered_refused s .unsupported
  exact ⟨x, (exec_intenset op s).trans hx, (exec_intenclr op s).trans hx, hreason⟩

end Sys2Proof.Machine
end

section
/-!
PROOFS. The channel map (R120 to R122) and `set_channel` (R221): which index has an offset and which one, and the two
register writes, or the one refusal, the procedure expands to.
-/

namespace Sys2Proof.Machine

/-! ### The channel map -/

theorem channelOffset_of_le_ten {i : Nat} (h : i ≤ 10) : channelOffset i = some (4 + 2 * i) := if_pos h

theorem channelOffset_of_upper_data {i : Nat} (hlo : 11 ≤ i) (hhi : i ≤ 36) :
    channelOffset i = some (28 + 2 * (i - 11)) := by
  have hnot : ¬ i ≤ 10 := by omega
  rw [channelOffset, if_neg hnot, if_pos hhi]

/-- R120: the rows of the map, read from an offset back to its index. -/
theorem channelOffset_cases {i o : Nat} (h : channelOffset i = some o) :
    (i ≤ 10 ∧ o = 4 + 2 * i) ∨ (11 ≤ i ∧ i ≤ 36 ∧ o = 28 + 2 * (i - 11)) ∨ (i = 37 ∧ o = 2) ∨ (i = 38 ∧ o = 26) ∨
      (i = 39 ∧ o = 80) := by
  unfold channelOffset at h
  split_ifs at h <;> cases h <;> omega

/-- R120: the offsets fit in FREQUENCY's 7-bit field, and 2 and 80 bound them. -/
theorem channelOffset_bounds {i o : Nat} (h : channelOffset i = some o) : 2 ≤ o ∧ o ≤ 80 := by
  have hrow := channelOffset_cases h
  omega

/-- R122: only an index of R120's range has an offset. -/
theorem index_le_of_channelOffset {i o : Nat} (h : channelOffset i = some o) : i ≤ 39 := by
  have hrow := channelOffset_cases h
  omega

theorem channelOffset_of_above {i : Nat} (h : 39 < i) : channelOffset i = none :=
  Option.eq_none_iff_forall_ne_some.mpr fun _ ho => Nat.not_le_of_lt h (index_le_of_channelOffset ho)

theorem whiteningSeed_of_le {i : Nat} (h : i ≤ 39) : whiteningSeed i = some i := if_pos h

theorem whiteningSeed_of_above {i : Nat} (h : 39 < i) : whiteningSeed i = none := if_neg (Nat.not_le_of_lt h)

/-! ### The procedure -/

/-- R91, R104: a write of FREQUENCY is one word access at its offset in RADIO's window. -/
theorem writeStmt_frequency (m : MemMap) (v : Word) :
    writeStmt m .frequency v =
      [.bus { addr := BitVec.ofNat 32 (m.radioBase + 0x508), size := .bits32, dir := .wr, data := v } none] := rfl

/-- R91, R104: a write of DATAWHITEIV is one word access at its offset in RADIO's window. -/
theorem writeStmt_datawhiteiv (m : MemMap) (v : Word) :
    writeStmt m .datawhiteiv v =
      [.bus { addr := BitVec.ofNat 32 (m.radioBase + 0x554), size := .bits32, dir := .wr, data := v } none] := rfl

/-- R221: an index with an offset is set by the write of that offset and then of the index, its own seed. -/
theorem setChannel_of_channelOffset {i o : Nat} (h : channelOffset i = some o) (m : MemMap) :
    setChannel m i =
      writeStmt m .frequency (BitVec.ofNat 32 o) ++ writeStmt m .datawhiteiv (BitVec.ofNat 32 i) := by
  simp only [setChannel, h, whiteningSeed_of_le (index_le_of_channelOffset h)]

/-- R122: an index outside the map leaves no write in the script, the refusal alone. -/
theorem setChannel_of_above {i : Nat} (h : 39 < i) (m : MemMap) : setChannel m i = [.refuse (.badChannel i)] := by
  simp only [setChannel, channelOffset_of_above h]

/-- Settles O58: the rows of the map give its values and, read backwards, the bounds and the refused indexes;
`set_channel` follows the map. -/
theorem channelMapMatchesTheAlgorithm : Obligations.ChannelMapMatchesTheAlgorithm := by
  refine ⟨fun _ => channelOffset_of_le_ten, fun _ => channelOffset_of_upper_data, rfl, rfl, rfl,
    fun _ _ => channelOffset_bounds, fun _ => whiteningSeed_of_le, fun i o ho m => ?_,
    fun i hi => ⟨channelOffset_of_above hi, whiteningSeed_of_above hi, setChannel_of_above hi⟩⟩
  rw [setChannel_of_channelOffset ho, writeStmt_frequency, writeStmt_datawhiteiv, List.singleton_append]

end Sys2Proof.Machine
end

section
/-!
PROOFS. The framer's PAYLOAD steps: the refusal of an overlong transmission (R135), and what a reception puts in RAM
and hands to the CRC (R138).
-/

namespace Sys2Proof.Machine

/-! ### The rows of the step table -/

/-- R191: in state TX RADIO's turn is the step of its transmit phase. -/
theorem radioStep_of_tx {s : State} (hp : s.powered = true) (hr : s.radioState = .tx) : radioStep s = s.txStep := by
  simp only [radioStep, hp, hr, if_true]

/-- R191: in state RX RADIO's turn is the step of its receive phase. -/
theorem radioStep_of_rx {s : State} (hp : s.powered = true) (hr : s.radioState = .rx) : radioStep s = s.rxStep := by
  simp only [radioStep, hp, hr, if_true]

theorem txStep_of_payload {s : State} (hf : s.phase = .payload) : s.txStep = s.txPayloadStep := by
  simp only [State.txStep, hf]

theorem rxStep_of_payload {s : State} (hf : s.phase = .payload) : s.rxStep = .next s.rxPayloadStep := by
  simp only [State.rxStep, hf]

/-! ### Transmit -/

/-- R135: the check of LENGTH comes before any bit of the PDU. -/
theorem txPayloadStep_of_overlong {s : State} (h : s.maxlen < (s.ramByte (s.packetPtr + 1)).toNat) :
    s.txPayloadStep = .refused .txLengthOverMaxlen := if_pos h

/-- Settles O43: the PAYLOAD row of the transmit table, on the side of its LENGTH check that refuses. -/
theorem overlongTransmissionsAreRefused : Obligations.OverlongTransmissionsAreRefused := by
  intro s hp hr hf hlen
  rw [radioStep_of_tx hp hr, txStep_of_payload hf, txPayloadStep_of_overlong hlen]

/-! ### Receive -/

/-- R138: a byte of the de-whitened stream is the same however far beyond it the stream is read. -/
theorem byteAt_rxPlain_of_le (s : State) {j m n : Nat} (hj : 8 * j + 8 ≤ m) (hmn : m ≤ n) :
    byteAt (s.rxPlain n) j = byteAt (s.rxPlain m) j := by
  rw [← rxPlain_take s n m hmn, byteAt_take _ _ _ hj]

/-- R138: the first two bytes lie in every PDU, whatever its LENGTH. -/
theorem sixteen_le_pduBits (length : Byte) : 16 ≤ pduBits length := by
  unfold pduBits
  omega

/-- R138: S0 is byte 0 of the whole PDU, though the framer reads it from the first 16 bits. -/
theorem byteAt_rxPlain_zero (s : State) (length : Byte) : byteAt (s.rxPlain (pduBits length)) 0 = s.rxS0 :=
  byteAt_rxPlain_of_le s (by decide) (sixteen_le_pduBits length)

/-- R138: LENGTH is byte 1 of the whole PDU, though the framer reads it from the first 16 bits. -/
theorem byteAt_rxPlain_one (s : State) (length : Byte) : byteAt (s.rxPlain (pduBits length)) 1 = s.rxLen :=
  byteAt_rxPlain_of_le s (by decide) (sixteen_le_pduBits length)

/-- R138: RAM at PACKETPTR after the PAYLOAD step holds the stream's bytes, up to MAXLEN of them after LENGTH. -/
theorem ramByte_rxPayloadStep_of_inside (s : State) {j : Nat} (hj : j < 2 + min s.rxLen.toNat s.maxlen) :
    s.rxPayloadStep.ramByte (s.packetPtr + j) = byteAt (s.rxPlain (pduBits s.rxLen)) j := by
  have hstored : j < s.rxStored.length := by rwa [length_rxStored]
  rw [ramByte_of_inside s.rxPayloadStep_ram hstored]
  exact getElem_bytesOfStream _ _ j hstored

/-- R138: the PAYLOAD step writes no byte of RAM before PACKETPTR or past the stored bytes. -/
theorem ramByte_rxPayloadStep_of_outside (s : State) {a : Nat}
    (ha : a < s.packetPtr ∨ s.packetPtr + (2 + min s.rxLen.toNat s.maxlen) ≤ a) :
    s.rxPayloadStep.ramByte a = s.ramByte a :=
  ramByte_of_outside s.rxPayloadStep_ram (by rwa [length_rxStored])

/-- Settles O45: the stored bytes are those of the stream, of which S0 and LENGTH are the first two; MAXLEN bounds what
is stored and not what the CRC takes. -/
theorem receivePayloadStoresAtMostMaxlen : Obligations.ReceivePayloadStoresAtMostMaxlen := by
  intro s hp hr hf
  have hinside := fun j => ramByte_rxPayloadStep_of_inside s (j := j)
  have hs0 : s.rxPayloadStep.ramByte s.packetPtr = s.rxS0 :=
    (hinside 0 (by omega)).trans (byteAt_rxPlain_zero s s.rxLen)
  have hlen : s.rxPayloadStep.ramByte (s.packetPtr + 1) = s.rxLen :=
    (hinside 1 (by omega)).trans (byteAt_rxPlain_one s s.rxLen)
  have hstep : radioStep s = .next s.rxPayloadStep := by rw [radioStep_of_rx hp hr, rxStep_of_payload hf]
  exact ⟨s.rxPayloadStep, hstep, hs0, hlen, hinside, fun _ => ramByte_rxPayloadStep_of_outside s,
    s.rxPayloadStep_curS0, s.rxPayloadStep_curLen, s.rxPayloadStep_crcReg, s.rxPayloadStep_events,
    s.rxPayloadStep_phase, s.rxPayloadStep_radioState.trans hr⟩

end Sys2Proof.Machine
end

section
/-!
PROOFS. The PDU encoder (R130, R142): when it answers, the size of what it answers, and the LENGTH byte it writes.
-/

namespace Sys2Proof

@[simp] theorem length_advABytes (a : BitVec 48) : (advABytes a).length = 6 := rfl

/-- R94 to R99: header, LENGTH and AdvA take eight bytes before AdvData. -/
@[simp] theorem length_pduImage (length : Byte) (advA : BitVec 48) (advData : List Byte) :
    (pduImage length advA advData).length = 8 + advData.length := by
  simp only [pduImage, List.length_cons, List.length_append, length_advABytes]
  omega

/-- R94: byte 1 of the image is LENGTH. -/
theorem getElem?_pduImage_one (length : Byte) (advA : BitVec 48) (advData : List Byte) :
    (pduImage length advA advData)[1]? = some length := rfl

end Sys2Proof

namespace Sys2Proof.Machine

/-- R130: a payload of at most 31 bytes is encoded, with LENGTH counting it and the six bytes of AdvA. -/
theorem pduEncode_of_le {payload : List Byte} (h : payload.length ≤ 31) (address : BitVec 48) :
    pduEncode address payload = .ok (pduImage (BitVec.ofNat 8 (6 + payload.length)) address payload) := if_pos h

/-- Settles O55: the answer is the packet image, and its LENGTH, at most 37, does not wrap in a byte. -/
theorem encodedPduLength : Obligations.EncodedPduLength := by
  intro address payload hn
  refine ⟨_, pduEncode_of_le hn address, length_pduImage _ _ _, _, getElem?_pduImage_one _ _ _, ?_⟩
  have hfits : 6 + payload.length < 2 ^ 8 := by omega
  rw [BitVec.toNat_ofNat, Nat.mod_eq_of_lt hfits]

end Sys2Proof.Machine
end

section
/-!
PROOFS. The decoder on a register's own address (R90, R91, R107): on an admitted memory map, an aligned 32-bit access at
a row's address is that row's instruction.
-/

namespace Sys2Proof

/-- R90: an access built from an operation asks for that operation. -/
@[simp] theorem BusOp.op_access (addr : Word) (op : BusOp) : (op.access addr).op = op := by
  cases op <;> rfl

@[simp] theorem BusOp.addr_access (addr : Word) (op : BusOp) : (op.access addr).addr = addr := by
  cases op <;> rfl

@[simp] theorem BusOp.size_access (addr : Word) (op : BusOp) : (op.access addr).size = .bits32 := by
  cases op <;> rfl

/-- R71, R91: every listed offset is a multiple of 4 inside its block's window. -/
theorem offset_of_mem_regTable : ∀ row ∈ regTable, row.offset % 4 = 0 ∧ row.offset < blockSize := by decide

/-- R91, R107: an access at the address of a row is the row's instruction. -/
theorem decode_access_of_row {m : MemMap} (hm : m.admitted = true) {b : Block} {k : Nat} {row : RegRow}
    (hrow : findRow b k = some row) (op : BusOp) :
    decode m (.bus (op.access (BitVec.ofNat 32 (m.base b + k)))) = .ok (row.make op) := by
  obtain ⟨hmem, -, rfl⟩ := findRow_some hrow
  obtain ⟨hoffset, hlt⟩ := offset_of_mem_regTable row hmem
  obtain ⟨hfits, hbase⟩ := MemMap.base_of_admitted hm b
  have haddr : (BitVec.ofNat 32 (m.base b + row.offset)).toNat = m.base b + row.offset := by
    rw [BitVec.toNat_ofNat, Nat.mod_eq_of_lt (by omega)]
  have haligned : (m.base b + row.offset) % 4 = 0 := by omega
  simp [decode, decodeAccess, haddr, haligned, MemMap.locate_base hm b hlt, hrow]

/-- R10, R71: the default parameters make an admitted map. -/
theorem MemMap.admitted_default : MemMap.default.admitted = true := by decide

/-- R91, R107: an access at an instruction's home, with the instruction's operation, is that instruction. -/
theorem decode_access_of_home {m : MemMap} (hm : m.admitted = true) {i : Instr} {b : Block} {k : Nat} {op : BusOp}
    (htable : Laws.TableRow.Statement i) (hhome : i.home = some (b, k)) (hop : i.op = some op) :
    decode m (.bus (op.access (BitVec.ofNat 32 (m.base b + k)))) = .ok i := by
  simp only [Laws.TableRow.Statement, hhome, hop] at htable
  obtain ⟨row, hrow, -, hmake⟩ := htable
  rw [decode_access_of_row hm hrow, hmake]

/-- R91: the address of CLOCK.TASKS_HFCLKSTART. -/
theorem decode_clockTasksHfclkstart (op : BusOp) :
    decode MemMap.default (.bus (op.access 0x40000000#32)) = .ok (.clockTasksHfclkstart op) :=
  decode_access_of_home MemMap.admitted_default (Laws.TableRow.clockTasksHfclkstart op) rfl rfl

/-- R91: the address of CLOCK.EVENTS_HFCLKSTARTED. -/
theorem decode_clockEventsHfclkstarted (op : BusOp) :
    decode MemMap.default (.bus (op.access 0x40000100#32)) = .ok (.clockEventsHfclkstarted op) :=
  decode_access_of_home MemMap.admitted_default (Laws.TableRow.clockEventsHfclkstarted op) rfl rfl

/-- R91: the address of RADIO.SHORTS. -/
theorem decode_shorts (op : BusOp) :
    decode MemMap.default (.bus (op.access 0x40001200#32)) = .ok (.shorts op) :=
  decode_access_of_home MemMap.admitted_default (Laws.TableRow.shorts op) rfl rfl

end Sys2Proof
end

section
/-!
PROOFS. SHORTS (R26, R188): which words a write admits, what the register then holds, and what a read shows of it.
-/

namespace Sys2Proof.Machine

/-! ### The access shape of a configuration register -/

/-- R179: a read of a powered radio's configuration register returns it and changes nothing else. -/
theorem configAccess_read {s : State} (hp : s.powered = true) (r : CfgReg) :
    configAccess r .rd s = .next (s.readBus (s.reg r)) := ifPowered_of_powered hp _

/-- R179: a write while the radio is idle is stored. -/
theorem configAccess_write_of_idle {s : State} (hp : s.powered = true) (hidle : s.busy = false) (r : CfgReg)
    (d : Word) : configAccess r (.wr d) s = .next (s.writeReg r d) := by
  simp only [configAccess, ifPowered_of_powered hp, hidle, Bool.false_eq_true, if_false]

/-- R179, R295: a write while the radio is busy is refused. -/
theorem configAccess_write_of_busy {s : State} (hp : s.powered = true) (hbusy : s.busy = true) (r : CfgReg)
    (d : Word) : configAccess r (.wr d) s = .refused .configWhileBusy := by
  simp only [configAccess, ifPowered_of_powered hp, hbusy, if_true]

/-! ### The meaning of SHORTS -/

/-- R188: a read of SHORTS is a configuration read. -/
theorem exec_shorts_read (s : State) : exec (.shorts .rd) s = configAccess .shorts .rd s := rfl

/-- R188: a word without an unsupported bit is a configuration write. -/
theorem exec_shorts_of_supported {d : Word} (h : d &&& ~~~fieldMask .shorts = 0#32) (s : State) :
    exec (.shorts (.wr d)) s = configAccess .shorts (.wr d) s := if_pos h

/-- R188, R273: a word with an unsupported bit is refused for it, whether the radio is busy or not. -/
theorem exec_shorts_of_unsupported {s : State} (hp : s.powered = true) {d : Word}
    (h : d &&& ~~~fieldMask .shorts ≠ 0#32) : exec (.shorts (.wr d)) s = .refused .unsupported :=
  (if_neg h).trans (ifPowered_of_powered hp _)

/-! ### The bits of SHORTS -/

/-- A word has no bit outside a mask exactly when each of its bits is one of the mask. -/
theorem and_not_eq_zero_iff (d m : Word) :
    d &&& ~~~m = 0#32 ↔ ∀ k : Nat, d.getLsbD k = true → m.getLsbD k = true := by
  constructor
  · intro h k hk
    have hlt : k < 32 := BitVec.lt_of_getLsbD hk
    have hbit : (d &&& ~~~m).getLsbD k = false := by rw [h, BitVec.getLsbD_zero]
    simpa [hk, hlt] using hbit
  · intro h
    refine BitVec.eq_of_getLsbD_eq fun k hk => ?_
    simpa [hk] using h k

/-- R26: the two bits of SHORTS. -/
theorem fieldMask_shorts_getLsbD (k : Nat) :
    (fieldMask .shorts).getLsbD k = (decide (k = 0) || decide (k = 20)) := by
  by_cases hk : k < 32
  · have hbits : ∀ k < 32, (fieldMask .shorts).getLsbD k = (decide (k = 0) || decide (k = 20)) := by decide
    exact hbits k hk
  · have h0 : k ≠ 0 := by omega
    have h20 : k ≠ 20 := by omega
    rw [BitVec.getLsbD_of_ge _ _ (Nat.le_of_not_lt hk), decide_eq_false h0, decide_eq_false h20, Bool.or_false]

/-- R188: the words a write of SHORTS admits. -/
theorem shorts_supported_iff (d : Word) :
    d &&& ~~~fieldMask .shorts = 0#32 ↔ ∀ k : Nat, d.getLsbD k = true → k = 0 ∨ k = 20 := by
  simp only [and_not_eq_zero_iff, fieldMask_shorts_getLsbD, Bool.or_eq_true, decide_eq_true_eq]

/-- R11, R26: what a read of SHORTS shows of a stored word. -/
theorem keepFields_shorts_getLsbD (w : Word) (k : Nat) :
    (keepFields .shorts w).getLsbD k = (w.getLsbD k && (decide (k = 0) || decide (k = 20))) := by
  have hnone : hardwiredOnes .shorts = 0#32 := rfl
  rw [keepFields, hnone, BitVec.or_zero, BitVec.getLsbD_and, fieldMask_shorts_getLsbD]

/-- R26: SHORTS reads as its two shortcuts. -/
theorem State.reg_shorts_getLsbD (s : State) (k : Nat) :
    (s.reg .shorts).getLsbD k = ((decide (k = 0) && s.readyStart) || (decide (k = 20) && s.phyendDisable)) := by
  have hfields := keepFields_shorts_getLsbD (s.cfg.get .shorts) k
  by_cases h0 : k = 0
  · subst h0
    simp [State.readyStart]
  · by_cases h20 : k = 20
    · subst h20
      simp [State.phyendDisable]
    · simpa [State.reg, h0, h20] using hfields

/-- R188: READY_START after a write. -/
theorem State.readyStart_writeReg_shorts (s : State) (d : Word) :
    (s.writeReg .shorts d).readyStart = d.getLsbD 0 := by
  rw [State.readyStart, State.reg_writeReg, if_pos rfl, keepFields_shorts_getLsbD]
  exact Bool.and_true _

/-- R188: PHYEND_DISABLE after a write. -/
theorem State.phyendDisable_writeReg_shorts (s : State) (d : Word) :
    (s.writeReg .shorts d).phyendDisable = d.getLsbD 20 := by
  rw [State.phyendDisable, State.reg_writeReg, if_pos rfl, keepFields_shorts_getLsbD]
  exact Bool.and_true _

/-- Settles O34: the bits of the word written decide between the refusal and the configuration write, and a read shows
the two stored bits. -/
theorem shortsHoldsTheTwoShortcuts : Obligations.ShortsHoldsTheTwoShortcuts := by
  refine ⟨decode_shorts, fun s d hp => ⟨fun k hk h0 h20 => ?unsupportedBit,
    fun hd => ⟨fun hs hr => ?idle, fun hbusy => ?busy⟩, s.reg .shorts, ?read, s.reg_shorts_getLsbD⟩⟩
  case unsupportedBit =>
    refine exec_shorts_of_unsupported hp fun hsupported => ?_
    exact ((shorts_supported_iff d).mp hsupported k hk).elim h0 h20
  case idle =>
    refine ⟨s.writeReg .shorts d, ?_, s.readyStart_writeReg_shorts d, s.phyendDisable_writeReg_shorts d,
      fun r hne => ?_, rfl, rfl⟩
    · rw [exec_shorts_of_supported ((shorts_supported_iff d).mpr hd),
        configAccess_write_of_idle hp ((busy_eq_false s).mpr ⟨hs, hr⟩)]
    · rw [State.reg_writeReg, if_neg hne]
  case busy =>
    rw [exec_shorts_of_supported ((shorts_supported_iff d).mpr hd),
      configAccess_write_of_busy hp ((busy_eq_true s).mpr hbusy)]
  case read =>
    rw [exec_shorts_read, configAccess_read hp, State.readBus]

end Sys2Proof.Machine
end

section
/-!
PROOFS. The CLOCK registers (R171, R174): the start task by clock state, and the access to its event. RADIO's power has
no part in them (R175).
-/

namespace Sys2Proof.Machine

/-! ### TASKS_HFCLKSTART -/

/-- R171: from OFF the clock begins to start. -/
theorem startHfclk_of_off {s : State} (h : s.hfState = .off) : s.startHfclk = { s with hfState := .starting } := by
  simp only [State.startHfclk, h]

/-- R171: a start while starting has no effect. -/
theorem startHfclk_of_starting {s : State} (h : s.hfState = .starting) : s.startHfclk = s := by
  simp only [State.startHfclk, h]

/-- R171: a start while running signals the event again. -/
theorem startHfclk_of_running {s : State} (h : s.hfState = .running) :
    s.startHfclk = { s with evHfclkStarted := true } := by
  simp only [State.startHfclk, h]

/-- R92: the task register cannot be read. -/
theorem exec_clockTasksHfclkstart_read (s : State) :
    exec (.clockTasksHfclkstart .rd) s = .refused .badAccess := rfl

/-- R171: a write with bit 0 set starts the clock. -/
theorem exec_clockTasksHfclkstart_of_bit {d : Word} (h : d.getLsbD 0 = true) (s : State) :
    exec (.clockTasksHfclkstart (.wr d)) s = .next s.startHfclk := if_pos h

/-- R171: a write with bit 0 clear has no effect. -/
theorem exec_clockTasksHfclkstart_of_no_bit {d : Word} (h : d.getLsbD 0 = false) (s : State) :
    exec (.clockTasksHfclkstart (.wr d)) s = .next s := if_neg (Bool.eq_false_iff.mp h)

/-- Settles O28: one case for each clock state, when bit 0 of the word written is set. -/
theorem hfclkStartByClockState : Obligations.HfclkStartByClockState := by
  refine ⟨decode_clockTasksHfclkstart, fun s d => ⟨exec_clockTasksHfclkstart_read s,
    fun hclear => exec_clockTasksHfclkstart_of_no_bit hclear s, fun hset => ?_⟩⟩
  rw [exec_clockTasksHfclkstart_of_bit hset]
  exact ⟨fun hoff => by rw [startHfclk_of_off hoff], fun hstarting => by rw [startHfclk_of_starting hstarting],
    fun hrunning => by rw [startHfclk_of_running hrunning]⟩

/-! ### EVENTS_HFCLKSTARTED -/

/-- R174: a read returns the flag. -/
theorem exec_clockEventsHfclkstarted_read (s : State) :
    exec (.clockEventsHfclkstarted .rd) s = .next (s.readBus (zextBool s.evHfclkStarted)) := rfl

/-- R174: a write of 0 clears the flag. -/
theorem exec_clockEventsHfclkstarted_clear (s : State) :
    exec (.clockEventsHfclkstarted (.wr 0#32)) s = .next { s with evHfclkStarted := false } := rfl

/-- R174: any other write is refused. -/
theorem exec_clockEventsHfclkstarted_of_ne_zero {d : Word} (h : d ≠ 0#32) (s : State) :
    exec (.clockEventsHfclkstarted (.wr d)) s = .refused .eventWriteNonZero := if_neg h

/-- Settles O29: the three accesses of the event register, at its address. -/
theorem hfclkStartedEventAccess : Obligations.HfclkStartedEventAccess :=
  ⟨decode_clockEventsHfclkstarted, fun s => ⟨exec_clockEventsHfclkstarted_read s,
    exec_clockEventsHfclkstarted_clear s, fun _ hd => exec_clockEventsHfclkstarted_of_ne_zero hd s⟩⟩

end Sys2Proof.Machine
end

section
/-!
PROOFS. The RADIO event registers (R177, R178): each is the one access shape of an event, at its own flag.
-/

namespace Sys2Proof.Machine

/-- R25, R192 to R199: the meaning of each event register is the access to its own flag. -/
theorem exec_event (e : Event) (op : BusOp) (s : State) : exec (e.instr op) s = eventAccess e op s := by
  cases e <;> rfl

/-- R177: a read returns the flag and keeps it. -/
theorem eventAccess_read {s : State} (hp : s.powered = true) (e : Event) :
    eventAccess e .rd s = .next (s.readBus (zextBool (s.events.get e))) := ifPowered_of_powered hp _

/-- R178: a write of 0 clears the flag. -/
theorem eventAccess_clear {s : State} (hp : s.powered = true) (e : Event) :
    eventAccess e (.wr 0#32) s = .next (s.setEvent e false) := ifPowered_of_powered hp _

/-- R178: any other write is refused. -/
theorem eventAccess_of_ne_zero {s : State} (hp : s.powered = true) (e : Event) {d : Word} (hd : d ≠ 0#32) :
    eventAccess e (.wr d) s = .refused .eventWriteNonZero := by
  simp only [eventAccess, ifPowered_of_powered hp, if_neg hd]

/-- Settles O30: each register is the access to its own flag, and clearing that flag keeps the other seven. -/
theorem radioEventAccess : Obligations.RadioEventAccess := by
  intro s e hp
  simp only [exec_event]
  refine ⟨eventAccess_read hp e, ⟨s.setEvent e false, eventAccess_clear hp e, ?cleared, fun e' hne => ?kept, rfl⟩,
    fun _ => eventAccess_of_ne_zero hp e⟩
  case cleared => rw [State.setEvent_events, EventFile.get_set, if_pos rfl]
  case kept => rw [State.setEvent_events, EventFile.get_set, if_neg hne]

end Sys2Proof.Machine
end

section
/-!
PROOFS. RADIO's steps outside TX and RX (R187, R189, R190): the ramp-up, which the READY_START shortcut extends into the
frame (R176), and the disable step, which frees the configuration registers and the buffers.
-/

namespace Sys2Proof.Machine

/-! ### The rows of the step table -/

/-- R189: in TXRU RADIO's turn is the transmit ramp-up. -/
theorem radioStep_of_txru {s : State} (hp : s.powered = true) (hr : s.radioState = .txru) :
    radioStep s = .next (s.rampUp .txidle) := by
  simp only [radioStep, hp, hr, if_true]

/-- R190: in RXRU RADIO's turn is the receive ramp-up. -/
theorem radioStep_of_rxru {s : State} (hp : s.powered = true) (hr : s.radioState = .rxru) :
    radioStep s = .next (s.rampUp .rxidle) := by
  simp only [radioStep, hp, hr, if_true]

/-- R187: in TXDISABLE and RXDISABLE RADIO's turn is the disable step. -/
theorem radioStep_of_disabling {s : State} (hp : s.powered = true)
    (hr : s.radioState = .txdisable ∨ s.radioState = .rxdisable) : radioStep s = .next s.disableStep := by
  obtain hr | hr := hr <;> simp only [radioStep, hp, hr, if_true]

/-! ### The ramp-up -/

/-- R176: without the shortcut, the ramp-up ends in its idle state with READY signalled. -/
theorem rampUp_of_no_shortcut {s : State} (h : s.readyStart = false) (idle : RadioState) :
    s.rampUp idle = { s with radioState := idle, events := { s.events with ready := true } } :=
  if_neg (Bool.eq_false_iff.mp h)

/-- R176: with the shortcut, START runs from the idle state in the same step. -/
theorem rampUp_of_shortcut {s : State} (h : s.readyStart = true) (idle : RadioState) :
    s.rampUp idle =
      ({ s with radioState := idle, events := { s.events with ready := true } } : State).startTask := if_pos h

/-- R184, R189: from TXRU the shortcut reaches TX, at the start of the frame. -/
theorem rampUp_txidle_of_shortcut {s : State} (h : s.readyStart = true) :
    s.rampUp .txidle =
      { s with radioState := .tx, phase := .addr, events := { s.events with ready := true } } :=
  rampUp_of_shortcut h .txidle

/-- R184, R190: from RXRU the shortcut reaches RX, searching. -/
theorem rampUp_rxidle_of_shortcut {s : State} (h : s.readyStart = true) :
    s.rampUp .rxidle =
      { s with radioState := .rx, phase := .search, events := { s.events with ready := true } } :=
  rampUp_of_shortcut h .rxidle

/-- Settles O39: in each ramp-up state, one case with the shortcut and one without it. -/
theorem rampUpReachesIdleOrStarts : Obligations.RampUpReachesIdleOrStarts := by
  refine fun s hp => ⟨fun hr => ⟨_, radioStep_of_txru hp hr, ?tx⟩,
    fun hr => ⟨_, radioStep_of_rxru hp hr, ?rx⟩⟩
  case tx =>
    cases hshort : s.readyStart with
    | true => simp [rampUp_txidle_of_shortcut hshort]
    | false => simp [rampUp_of_no_shortcut hshort]
  case rx =>
    cases hshort : s.readyStart with
    | true => simp [rampUp_rxidle_of_shortcut hshort]
    | false => simp [rampUp_of_no_shortcut hshort]

/-! ### The disable step -/

/-- R187: the whole next state of the disable step. -/
theorem disableStep_eq (s : State) :
    s.disableStep =
      { s with
        radioState := .disabled
        session := .none
        dmaRegions := []
        events := { s.events with disabled := true } } := rfl

/-- R187: after the disable step the configuration registers are HOST's again. -/
@[simp] theorem disableStep_busy (s : State) : s.disableStep.busy = false :=
  (busy_eq_false _).mpr ⟨rfl, rfl⟩

/-- R84: with no session in flight no byte of a HOST access is raced. -/
theorem firstRace_of_no_session {s : State} (h : s.session = .none) (a n : Nat) : s.firstRace a n = none := if_pos h

/-- Settles O40: the row of the step table, the state it leads to, and what HOST finds there. -/
theorem disableStepEndsTheSession : Obligations.DisableStepEndsTheSession := fun s hp hr =>
  ⟨s.disableStep, radioStep_of_disabling hp hr, disableStep_eq s, disableStep_busy s, firstRace_of_no_session rfl⟩

end Sys2Proof.Machine
end

section
/-!
PROOFS. The writes of a busy radio (R295): a configuration register, POWER and the antenna pattern refuse them, SHORTS
after its own check of the word (R188).
-/

namespace Sys2Proof.Machine

/-- R179: the meaning of a configuration register other than SHORTS is the access to its own register. -/
theorem exec_config_of_ne_shorts {r : CfgReg} (hr : r ≠ .shorts) (op : BusOp) (s : State) :
    exec (r.instr op) s = configAccess r op s := by
  cases r with
  | shorts => exact absurd rfl hr
  | _ => rfl

/-- R236: SWITCHPATTERN takes no word from HOST while the radio is busy. -/
theorem exec_switchpattern_of_busy {s : State} (hp : s.powered = true) (hbusy : s.busy = true) (d : Word) :
    exec (.switchpattern (.wr d)) s = .refused .configWhileBusy :=
  (ifPowered_of_powered hp _).trans (if_pos hbusy)

/-- R237, assumption 15: a busy radio refuses CLEARPATTERN for a word with bit 0 clear too. -/
theorem exec_clearpattern_of_busy {s : State} (hp : s.powered = true) (hbusy : s.busy = true) (d : Word) :
    exec (.clearpattern (.wr d)) s = .refused .configWhileBusy :=
  (ifPowered_of_powered hp _).trans (if_pos hbusy)

/-- R173: POWER is not written while the radio is busy, whether it is powered or not. -/
theorem exec_power_of_busy {s : State} (hbusy : s.busy = true) (d : Word) :
    exec (.power (.wr d)) s = .refused .configWhileBusy := if_pos hbusy

/-- R188, R295: a busy radio refuses every SHORTS write, as configuration when the word has supported bits only. -/
theorem exec_shorts_write_of_busy {s : State} (hp : s.powered = true) (hbusy : s.busy = true) (d : Word) :
    ∃ x : Refusal, exec (.shorts (.wr d)) s = .refused x ∧
      (d &&& ~~~fieldMask .shorts = 0#32 → x = .configWhileBusy) := by
  by_cases hd : d &&& ~~~fieldMask .shorts = 0#32
  · exact ⟨_, (exec_shorts_of_supported hd s).trans (configAccess_write_of_busy hp hbusy .shorts d), fun _ => rfl⟩
  · exact ⟨_, exec_shorts_of_unsupported hp hd, fun h => absurd h hd⟩

/-- Settles O33: SHORTS checks the word first; every other register asks only whether the radio is busy. -/
theorem busyWritesAreRefused : Obligations.BusyWritesAreRefused := by
  intro s d hp h
  have hbusy : s.busy = true := (busy_eq_true s).mpr h
  refine ⟨fun r => ?config, exec_switchpattern_of_busy hp hbusy d, exec_clearpattern_of_busy hp hbusy d,
    exec_power_of_busy hbusy d⟩
  by_cases hr : r = .shorts
  · subst hr
    obtain ⟨x, hx, hreason⟩ := exec_shorts_write_of_busy hp hbusy d
    exact ⟨x, hx, fun hd => hreason (hd.resolve_left (absurd rfl))⟩
  · exact ⟨_, (exec_config_of_ne_shorts hr _ s).trans (configAccess_write_of_busy hp hbusy r d), fun _ => rfl⟩

end Sys2Proof.Machine
end

section
/-!
PROOFS. The decoder and the encoder are inverse (R90 to R99, R107): the register map read by address and by
instruction, the bits of an access, and the packet image; what the map does not list, or lists with another access, is
refused (R92).
-/

namespace Sys2Proof

/-! ### The register map -/

/-- R91: every instruction agrees with its row of the register map. -/
theorem tableRow (i : Instr) : Laws.TableRow.Statement i := by
  cases i with
  | advNonconnInd length advA advData => exact Laws.TableRow.advNonconnInd length advA advData
  | _ => exact ⟨_, rfl, rfl, rfl⟩

/-- R91: a row of the map is found where it stands, and the accesses it makes are at home there, with its access
code. -/
structure RegRow.Listed (row : RegRow) : Prop where
  found : findRow row.block row.offset = some row
  home : ∀ op, (row.make op).home = some (row.block, row.offset)
  access : ∀ op, (row.make op).access = some row.access
  op : ∀ op, (row.make op).op = some op

theorem RegRow.listed_of_mem : ∀ row ∈ regTable, row.Listed := by
  simp only [regTable, clockRows, taskRows, eventRows, controlRows, configRows, dfeRows, antennaRows, powerRows,
    List.cons_append, List.nil_append, List.forall_mem_cons, List.not_mem_nil, false_imp_iff, implies_true, and_true]
  and_intros <;> exact ⟨rfl, fun _ => rfl, fun _ => rfl, fun _ => rfl⟩

/-- R90, R92: an access that decodes is a 32-bit one at the address of a row, and is that row's instruction. -/
theorem decodeAccess_ok {m : MemMap} {a : BusAccess} {i : Instr} (h : decodeAccess m a = .ok i) :
    a.size = .bits32 ∧ a.addr.toNat % 4 = 0 ∧
      ∃ row ∈ regTable, row.addr m = a.addr.toNat ∧ m.locate a.addr.toNat = some (row.block, row.offset) ∧
        i = row.make a.op := by
  unfold decodeAccess at h
  split at h
  · cases h
  · rename_i hsize
    split at h
    · cases h
    · rename_i haligned
      split at h
      · rename_i b offset hloc
        split at h
        · rename_i row hrow
          obtain ⟨hmem, rfl, rfl⟩ := findRow_some hrow
          cases h
          exact ⟨not_not.mp hsize, not_not.mp haligned, row, hmem, (MemMap.base_of_locate hloc).1, hloc, rfl⟩
        · cases h
      · cases h

/-! ### Register accesses -/

/-- R90: the operation of an access is its direction and, for a WR, its data word. -/
theorem BusOp.access_op (a : BusAccess) (hsize : a.size = .bits32) (hrd : a.dir = .rd → a.data = 0#32) :
    a.op.access a.addr = a := by
  obtain ⟨addr, size, dir, data⟩ := a
  cases dir with
  | rd => simp_all [BusAccess.op, BusOp.access]
  | wr => simp_all [BusAccess.op, BusOp.access]

/-- R91, R93: the bus access of an instruction is one at its home with its operation. -/
theorem Instr.busAccess_some {m : MemMap} {i : Instr} {a : BusAccess} (h : i.busAccess m = some a) :
    ∃ b offset op, i.home = some (b, offset) ∧ i.op = some op ∧
      a = op.access (BitVec.ofNat 32 (m.base b + offset)) := by
  unfold Instr.busAccess at h
  split at h
  · rename_i b offset op hhome hop
    cases h
    exact ⟨b, offset, op, hhome, hop, rfl⟩
  · cases h

/-- R91: a row's access is the bus access of the instruction it makes. -/
theorem RegRow.busAccess_make {row : RegRow} (h : row ∈ regTable) (m : MemMap) (op : BusOp) :
    (row.make op).busAccess m = some (op.access (BitVec.ofNat 32 (row.addr m))) := by
  have hlisted := RegRow.listed_of_mem row h
  simp only [Instr.busAccess, hlisted.home, hlisted.op, RegRow.addr]

/-- R91: every instruction but the PDU row is a bus access. -/
theorem Instr.busAccess_or_pdu (m : MemMap) (i : Instr) :
    (∃ a, i.busAccess m = some a) ∨ ∃ length advA advData, i = .advNonconnInd length advA advData := by
  cases i with
  | advNonconnInd length advA advData => exact .inr ⟨length, advA, advData, rfl⟩
  | _ => exact .inl ⟨_, rfl⟩

/-- R90, R91: a register instruction is encoded as its bus access. -/
theorem encode_of_busAccess {m : MemMap} {i : Instr} {a : BusAccess} (h : i.busAccess m = some a) :
    encode m i = .bus a := by
  cases i with
  | advNonconnInd => cases h
  | _ => simp only [encode, h]

/-- R90, R91: the bus access of an instruction decodes to it. -/
theorem decode_busAccess {m : MemMap} (hm : m.admitted = true) {i : Instr} {a : BusAccess}
    (h : i.busAccess m = some a) : decode m (.bus a) = .ok i := by
  obtain ⟨b, offset, op, hhome, hop, rfl⟩ := Instr.busAccess_some h
  exact decode_access_of_home hm (tableRow i) hhome hop

/-- R90, R107: a bus access that decodes is the one its instruction is encoded as. -/
theorem encode_of_decodeAccess {m : MemMap} {a : BusAccess} {i : Instr} (h : decodeAccess m a = .ok i)
    (hrd : a.dir = .rd → a.data = 0#32) : encode m i = .bus a := by
  obtain ⟨hsize, -, row, hrow, haddr, -, rfl⟩ := decodeAccess_ok h
  have haccess := RegRow.busAccess_make hrow m a.op
  rw [haddr, BitVec.ofNat_toNat, BitVec.setWidth_eq, BusOp.access_op a hsize hrd] at haccess
  exact encode_of_busAccess haccess

/-! ### Packet images -/

/-- R74, R98: the bytes of a packed address are the six it was packed from. -/
theorem advABytes_packAdvA (a0 a1 a2 a3 a4 a5 : Byte) :
    advABytes (packAdvA a0 a1 a2 a3 a4 a5) = [a0, a1, a2, a3, a4, a5] := by
  simp only [advABytes, advAByte, packAdvA, List.cons.injEq, and_true]
  and_intros <;> ext i hi <;> simp <;> grind

/-- R74, R98: an address is packed from its own six bytes. -/
theorem packAdvA_advAByte (a : BitVec 48) :
    packAdvA (advAByte a 0) (advAByte a 1) (advAByte a 2) (advAByte a 3) (advAByte a 4) (advAByte a 5) = a := by
  simp only [advAByte, packAdvA]
  ext i hi
  simp only [BitVec.getElem_append, BitVec.getElem_extractLsb']
  grind

/-- R95 to R99: a buffer that begins with a packet image decodes to its fields, and AdvData is all that follows. -/
theorem decodePdu_pduImage (length : Byte) (advA : BitVec 48) (advData pad : List Byte) :
    decodePdu (pduImage length advA advData ++ pad) = .ok (.advNonconnInd length advA (advData ++ pad)) := by
  have hdecode : decodePdu (pduImage length advA advData ++ pad) =
      .ok (.advNonconnInd length
        (packAdvA (advAByte advA 0) (advAByte advA 1) (advAByte advA 2) (advAByte advA 3) (advAByte advA 4)
          (advAByte advA 5)) (advData ++ pad)) := by
    simp only [pduImage, advABytes, List.cons_append, List.nil_append, decodePdu, if_true]
  rw [hdecode, packAdvA_advAByte]

/-- R95, R107: a packet buffer that decodes is the image its instruction is encoded as. -/
theorem encode_of_decodePdu (m : MemMap) {bytes : List Byte} {i : Instr} (h : decodePdu bytes = .ok i) :
    encode m i = .pdu bytes := by
  unfold decodePdu at h
  split at h
  · split at h
    · rename_i hheader
      cases h
      simp [encode, pduImage, advABytes_packAdvA, hheader]
    · cases h
  · split at h <;> cases h
  · cases h

/-- Settles O2: a register instruction is encoded as its bus access, and the PDU row as its packet image. -/
theorem encodedInstructionsDecodeToThemselves : Obligations.EncodedInstructionsDecodeToThemselves := by
  intro m i hm _
  obtain ⟨a, ha⟩ | ⟨length, advA, advData, rfl⟩ := Instr.busAccess_or_pdu m i
  · rw [encode_of_busAccess ha, decode_busAccess hm ha]
  · simpa [encode, decode] using decodePdu_pduImage length advA advData []

/-- Settles O3: one case for each kind of code. -/
theorem decodedCodesAreTheEncodings : Obligations.DecodedCodesAreTheEncodings := by
  intro m c i h hrd
  cases c with
  | bus a => exact encode_of_decodeAccess h (hrd a rfl)
  | pdu bytes => exact encode_of_decodePdu m h

/-! ### The bits of an access -/

/-- Assumption 2: bits 33..32 give the direction back. -/
theorem dirOfBits_bitsOfAccess (a : BusAccess) (k : Nat) : dirOfBits (bitsOfAccess a / 2 ^ 32 % 4) k = a.dir := by
  obtain ⟨addr, size, dir, data⟩ := a
  have haddr := addr.isLt
  cases dir with
  | rd =>
    have hbits : bitsOfAccess ⟨addr, size, .rd, data⟩ / 2 ^ 32 % 4 = 1 := by
      cases size <;> simp only [bitsOfAccess] <;> omega
    rw [hbits]; rfl
  | wr =>
    have hbits : bitsOfAccess ⟨addr, size, .wr, data⟩ / 2 ^ 32 % 4 = 2 := by
      cases size <;> simp only [bitsOfAccess] <;> omega
    rw [hbits]; rfl

/-- Assumption 2: bits 35..34 give the width back. -/
theorem sizeOfBits_bitsOfAccess (a : BusAccess) : sizeOfBits (bitsOfAccess a / 2 ^ 34 % 4) = a.size := by
  obtain ⟨addr, size, dir, data⟩ := a
  have haddr := addr.isLt
  cases size with
  | bits32 =>
    have hbits : bitsOfAccess ⟨addr, .bits32, dir, data⟩ / 2 ^ 34 % 4 = 0 := by
      cases dir <;> simp only [bitsOfAccess] <;> omega
    rw [hbits]; rfl
  | bits16 =>
    have hbits : bitsOfAccess ⟨addr, .bits16, dir, data⟩ / 2 ^ 34 % 4 = 1 := by
      cases dir <;> simp only [bitsOfAccess] <;> omega
    rw [hbits]; rfl
  | bits8 =>
    have hbits : bitsOfAccess ⟨addr, .bits8, dir, data⟩ / 2 ^ 34 % 4 = 2 := by
      cases dir <;> simp only [bitsOfAccess] <;> omega
    rw [hbits]; rfl

/-- Assumption 2: the low word of the bits is the address, the high word the data. -/
theorem words_of_bitsOfAccess (a : BusAccess) :
    bitsOfAccess a % 2 ^ 32 = a.addr.toNat ∧ bitsOfAccess a / 2 ^ 64 = a.data.toNat := by
  obtain ⟨addr, size, dir, data⟩ := a
  have haddr := addr.isLt
  cases dir <;> cases size <;> simp only [bitsOfAccess] <;> omega

/-- Assumption 2: the numbering leaves no access two meanings. -/
theorem accessOfBits_bitsOfAccess (a : BusAccess) : accessOfBits (bitsOfAccess a) = a := by
  obtain ⟨haddr, hdata⟩ := words_of_bitsOfAccess a
  have hlow : BitVec.ofNat 32 (bitsOfAccess a) = a.addr := by
    rw [← BitVec.toNat_inj, BitVec.toNat_ofNat, haddr]
  rw [accessOfBits, hlow, hdata, BitVec.ofNat_toNat, BitVec.setWidth_eq, sizeOfBits_bitsOfAccess,
    dirOfBits_bitsOfAccess]

/-- Assumption 2: an access takes 96 bits. -/
theorem bitsOfAccess_lt (a : BusAccess) : bitsOfAccess a < 2 ^ 96 := by
  obtain ⟨addr, size, dir, data⟩ := a
  have haddr := addr.isLt
  have hdata := data.isLt
  cases dir <;> cases size <;> simp only [bitsOfAccess] <;> omega

/-- Settles O1: the bits give the access back, which is the instruction's own. -/
theorem accessBitsDecodeToTheInstruction : Obligations.AccessBitsDecodeToTheInstruction := by
  intro i a h
  have hcode : codeOfTableWord 96 (bitsOfAccess a) = .bus a := by
    rw [codeOfTableWord, if_neg (by decide), Nat.mod_eq_of_lt (bitsOfAccess_lt a), accessOfBits_bitsOfAccess]
  rw [decodeTableWord, hcode, decode_busAccess MemMap.admitted_default h]

/-- Settles O5: each word is decoded by its row. -/
theorem tableWordsDecodeToTheirRows : Obligations.TableWordsDecodeToTheirRows := by
  and_intros <;> rfl

end Sys2Proof

namespace Sys2Proof.Machine

/-! ### Illegal accesses -/

/-- R92: an access in a direction outside the register's access code is refused in every state. -/
theorem exec_of_not_allowed {i : Instr} {c : AccessCode} {op : BusOp} (hcode : i.access = some c)
    (hop : i.op = some op) (hdir : c.allows op = false) (s : State) : exec i s = .refused .badAccess := by
  cases c <;> cases op <;> simp only [AccessCode.allows, Bool.true_eq_false] at hdir
  all_goals cases i <;> cases hcode <;> cases hop <;> rfl

/-- R71, R91: on an admitted map an access at a row's address decodes to no other row. -/
theorem decodeAccess_ok_of_row {m : MemMap} (hm : m.admitted = true) {a : BusAccess} {i : Instr} {row : RegRow}
    (hrow : row ∈ regTable) (haddr : row.addr m = a.addr.toNat) (h : decodeAccess m a = .ok i) :
    i = row.make a.op := by
  obtain ⟨-, -, row', hrow', -, hloc, rfl⟩ := decodeAccess_ok h
  have hhere : m.locate (row.addr m) = some (row.block, row.offset) :=
    MemMap.locate_base hm row.block (offset_of_mem_regTable row hrow).2
  obtain ⟨hblock, hoffset⟩ := Prod.mk.inj (Option.some.inj (hloc.symm.trans (haddr ▸ hhere)))
  have hfound := (RegRow.listed_of_mem row' hrow').found
  rw [hblock, hoffset, (RegRow.listed_of_mem row hrow).found] at hfound
  rw [Option.some.inj hfound]

/-- Settles O4: an access that decodes is a 32-bit aligned one at a listed address, and the meaning of that one row
refuses the wrong direction. -/
theorem illegalAccessesAreRefused : Obligations.IllegalAccessesAreRefused := by
  intro a s hillegal
  unfold busAccess
  split
  · rename_i i hi
    obtain ⟨hsize, haligned, row', hrow', haddr', -, -⟩ := decodeAccess_ok hi
    obtain hwidth | hmisaligned | hunlisted | ⟨hm, row, hrow, haddr, hdir⟩ := hillegal
    · exact absurd hsize hwidth
    · exact absurd haligned hmisaligned
    · exact absurd haddr' (hunlisted row' hrow')
    · have hlisted := RegRow.listed_of_mem row hrow
      rw [decodeAccess_ok_of_row hm hrow haddr hi]
      exact exec_of_not_allowed (hlisted.access _) (hlisted.op _) hdir s
  · rfl

end Sys2Proof.Machine
end

section
/-!
PROOFS. The invariant (R11, R27, R42, R53, R72, R76, R180, R187): reset satisfies it, and each effect of an instruction, of
a HOST statement and of a turn of RADIO, CLOCK or AIR keeps it. From it, RADIO writes RAM inside its DMA regions only.
-/

namespace Sys2Proof.Machine

/-! ### What the invariant looks at -/

/-- The fields the invariant looks at; the others as at reset. -/
def State.invView (s : State) : State :=
  { State.reset with
    memMap := s.memMap
    hfState := s.hfState
    evHfclkStarted := s.evHfclkStarted
    powered := s.powered
    cfg := s.cfg
    written := s.written
    intMask := s.intMask
    rxMatch := s.rxMatch
    amount := s.amount
    radioState := s.radioState
    phase := s.phase
    session := s.session
    dmaRegions := s.dmaRegions
    ram := s.ram
    wordVars := s.wordVars
    byteVars := s.byteVars }

theorem inv_invView (s : State) : Inv s.invView ↔ Inv s :=
  ⟨fun h => { h with }, fun h => { h with }⟩

/-- States that agree on what the invariant looks at satisfy it together. -/
theorem Inv.congr {s t : State} (hs : Inv s) (h : t.invView = s.invView) : Inv t :=
  (inv_invView t).mp (h ▸ (inv_invView s).mpr hs)

/-- R60: the registers after reset hold what a write stores. -/
theorem storeFields_atReset (r : CfgReg) : storeFields r (RegFile.atReset.get r) = RegFile.atReset.get r := by
  cases r <;> decide

/-- R60, R290: the reset state satisfies the invariant on every admitted map. -/
theorem inv_reset {m : MemMap} (hm : m.admitted = true) : Inv { State.reset with memMap := m } where
  map_admitted := hm
  ram_rises := rfl
  word_vars_rise := rfl
  byte_vars_rise := rfl
  ram_inside := nofun
  fields_kept := storeFields_atReset
  int_mask_zero := rfl
  rx_match_zero := rfl
  hf_event := nofun
  session_fits := rfl
  phase_legal := ⟨nofun, nofun⟩
  regions_fixed := rfl
  session_checked h := absurd rfl h
  amount_bounded := Nat.zero_le _

/-- Settles O10: the default map is one of the admitted ones. -/
theorem resetSatisfiesTheInvariant : Obligations.ResetSatisfiesTheInvariant :=
  ⟨inv_reset MemMap.admitted_default, fun _ => inv_reset⟩

/-! ### The session -/

/-- R187: outside a session RADIO owns no buffer. -/
theorem Inv.dmaRegions_of_idle {s : State} (hs : Inv s) (h : s.session = .none) : s.dmaRegions = [] := by
  rw [hs.regions_fixed, if_pos h]

/-- R76: the packet region is RADIO's in every session. -/
theorem Inv.packetRegion_mem {s : State} (hs : Inv s) (h : s.session ≠ .none) : s.packetRegion ∈ s.dmaRegions := by
  rw [hs.regions_fixed, if_neg h, State.sessionRegions]
  split <;> simp

/-- R76: the IQ region is RADIO's in a receive session with a CTE. -/
theorem Inv.iqRegion_mem {s : State} (hs : Inv s) (h : s.session = .rx) (hc : s.cteEnabled = true) :
    s.iqRegion ∈ s.dmaRegions := by
  simp [hs.regions_fixed, h, State.sessionRegions, hc]

/-- R72: a region inside RAM, as bounds. -/
theorem Region.inRam_iff (m : MemMap) (g : Region) :
    g.inRam m = true ↔ m.ramBase ≤ g.start ∧ g.start + g.len ≤ m.ramBase + m.ramSize := by
  simp [Region.inRam]

/-- R53, R76: a region holds its range of addresses. -/
theorem Region.holds_iff (g : Region) (a : Nat) : g.holds a = true ↔ g.start ≤ a ∧ a < g.start + g.len := by
  simp [Region.holds]

/-- R72, R180: the buffers of a session in flight lie in RAM. -/
theorem Inv.region_in_ram {s : State} (hs : Inv s) (h : s.session ≠ .none) {g : Region} (hg : g ∈ s.dmaRegions) :
    s.memMap.ramBase ≤ g.start ∧ g.start + g.len ≤ s.memMap.ramBase + s.memMap.ramSize := by
  obtain ⟨-, -, -, -, -, hregions⟩ := hs.session_checked h
  exact (Region.inRam_iff _ _).mp (hregions g hg)

/-! ### The updates that matter to the invariant -/

/-- R50, R51: RADIO moves to a state of the same session, in one of its phases. -/
theorem Inv.move {s : State} (hs : Inv s) (r : RadioState) (p : Phase) (hr : r.sessionOf = s.radioState.sessionOf)
    (hp : (r = .tx → p ≠ .search) ∧ (r = .rx → p ≠ .addr)) : Inv { s with radioState := r, phase := p } :=
  { hs with
    session_fits := hs.session_fits.trans hr.symm
    phase_legal := hp }

/-- R71: bytes stored inside RAM. -/
theorem Inv.store {s : State} (hs : Inv s) {a : Nat} {bytes : List Byte}
    (h : bytes ≠ [] → s.memMap.ramBase ≤ a ∧ a + bytes.length ≤ s.memMap.ramBase + s.memMap.ramSize) :
    Inv (s.storeBytes a bytes) :=
  { hs with
    ram_rises := storeBytes_wf s a bytes hs.ram_rises
    ram_inside := fun c hc => by
      obtain hnew | hold := mem_writeBytes hc
      · have hne : bytes ≠ [] := by rintro rfl; simp at hnew; omega
        have hbounds := h hne
        simp only [State.storeBytes_memMap]
        omega
      · exact hs.ram_inside c hold }

theorem Inv.bindWord {s : State} (hs : Inv s) (v : Nat) (w : Word) : Inv (s.bindWord v w) :=
  { hs with word_vars_rise := keysRise_keyPut _ _ _ hs.word_vars_rise }

theorem Inv.bindBytes {s : State} (hs : Inv s) (v : Nat) (bytes : List Byte) : Inv (s.bindBytes v bytes) :=
  { hs with byte_vars_rise := keysRise_keyPut _ _ _ hs.byte_vars_rise }

/-- R171: the clock's start; a session in flight has found it running. -/
theorem Inv.startHfclk {s : State} (hs : Inv s) : Inv s.startHfclk := by
  cases h : s.hfState with
  | off =>
    rw [startHfclk_of_off h]
    have hoff : s.hfState ≠ .running := by simp [h]
    exact { hs with
      hf_event := fun he => absurd (hs.hf_event he) hoff
      session_checked := fun hsess => absurd (hs.session_checked hsess).2.1 hoff }
  | starting => rwa [startHfclk_of_starting h]
  | running =>
    rw [startHfclk_of_running h]
    exact { hs with hf_event := fun _ => h }

/-- R172: the clock comes to run. -/
theorem Inv.clockStep {s : State} (hs : Inv s) : Inv (clockStep s) := by
  unfold Machine.clockStep
  split
  · rename_i h
    have hstarting : s.hfState ≠ .running := by simp [h]
    exact { hs with
      hf_event := fun _ => rfl
      session_checked := fun hsess => absurd (hs.session_checked hsess).2.1 hstarting }
  · exact hs
  · exact hs

/-- R179: a register written while the radio is idle. -/
theorem Inv.writeReg {s : State} (hs : Inv s) (hb : s.busy = false) (r : CfgReg) (d : Word) : Inv (s.writeReg r d) := by
  obtain ⟨hidle, -⟩ := (busy_eq_false s).mp hb
  exact { hs with
    fields_kept := fun q => by
      rw [State.writeReg_cfg, RegFile.get_set]
      split
      · subst q; exact storeFields_storeFields r d
      · exact hs.fields_kept q
    regions_fixed := by simp [hidle, hs.dmaRegions_of_idle hidle]
    session_checked := fun h => absurd hidle h }

/-- R173: the radio powered while idle. -/
theorem Inv.powerUp {s : State} (hs : Inv s) (hb : s.busy = false) : Inv { s with powered := true } :=
  { hs with session_checked := fun h => absurd ((busy_eq_false s).mp hb).1 h }

/-- R173: the radio powered down while idle. -/
theorem Inv.powerDown {s : State} (hs : Inv s) (hb : s.busy = false) : Inv s.powerDown := by
  obtain ⟨hidle, -⟩ := (busy_eq_false s).mp hb
  exact { hs with
    fields_kept := storeFields_atReset
    int_mask_zero := rfl
    rx_match_zero := rfl
    session_fits := hidle
    phase_legal := ⟨nofun, nofun⟩
    regions_fixed := by simp [hidle, hs.dmaRegions_of_idle hidle]
    session_checked := fun h => absurd hidle h
    amount_bounded := Nat.zero_le _ }

/-- R180: a session that passed its checks. -/
theorem Inv.beginSession {s : State} (hs : Inv s) {kind : Session} (hk : kind ≠ .none) (hp : s.powered = true)
    (h : sessionStart kind s = .next (s.beginSession kind)) : Inv (s.beginSession kind) := by
  obtain ⟨-, -, hclock, hwritten, hadmitted, haligned, hregions, -⟩ := sessionStart_next h
  exact { hs with
    session_fits := by
      cases kind with
      | none => exact absurd rfl hk
      | tx | rx => rfl
    phase_legal := by cases kind <;> exact ⟨nofun, nofun⟩
    regions_fixed := (if_neg hk).symm
    session_checked := fun _ => ⟨hp, hclock, hwritten, hadmitted, haligned, hregions⟩ }

/-- R184: START from an idle state of a session. -/
theorem Inv.startTask {s : State} (hs : Inv s) : Inv s.startTask := by
  unfold State.startTask
  split
  · rename_i h
    exact hs.move .tx .addr (by rw [h]; rfl) ⟨nofun, nofun⟩
  · rename_i h
    exact hs.move .rx .search (by rw [h]; rfl) ⟨nofun, nofun⟩
  · exact hs

/-- R187: the disable step ends the session. -/
theorem Inv.disableStep {s : State} (hs : Inv s) : Inv s.disableStep :=
  { hs with
    session_fits := rfl
    phase_legal := ⟨nofun, nofun⟩
    regions_fixed := rfl
    session_checked := fun h => absurd rfl h }

/-! ### RADIO's signals and captures -/

/-- R186: DISABLE from the shortcut leaves TX or RX for its ramp-down. -/
theorem State.disableTask_sessionOf (s : State) :
    s.disableTask.radioState.sessionOf = s.radioState.sessionOf := by
  unfold State.disableTask
  split <;> simp_all [RadioState.sessionOf]

/-- R176, R186: the PHYEND signal stays in the session. -/
theorem State.signal_phyend_sessionOf (s : State) :
    (s.signal .phyend).radioState.sessionOf = s.radioState.sessionOf := by
  simp only [State.signal]
  split
  · exact State.disableTask_sessionOf _
  · rfl

/-- R242: a capture's words fit in the IQ region. -/
theorem iqBytes_length_le (s : State) : (s.iqWords.flatMap wordBytes).length ≤ s.iqRegion.len := by
  have hle := length_iqWords_le s
  rw [length_flatMap_wordBytes]
  exact Nat.mul_le_mul_left 4 hle

/-- R138: the stored bytes fit in the packet region. -/
theorem rxStored_length_le (s : State) : s.rxStored.length ≤ s.packetRegion.len := by
  rw [length_rxStored]
  exact Nat.add_le_add_left (Nat.min_le_right _ _) 2

/-- R49: MAXCNT has 14 bits. -/
theorem State.iqMaxcnt_lt (s : State) : s.iqMaxcnt < 2 ^ 14 := BitVec.isLt _

/-- R242: the capture of a session with a CTE stays inside the session's buffer. -/
theorem Inv.iqCapture {s : State} (hs : Inv s) (hr : s.radioState = .rx) : Inv s.iqCapture := by
  cases hc : s.cteEnabled with
  | false => rwa [iqCapture_of_no_cte s hc]
  | true =>
    have hsess : s.session = .rx := by rw [hs.session_fits, hr]; rfl
    have hram := hs.region_in_ram (by simp [hsess]) (hs.iqRegion_mem hsess hc)
    have hfits := iqBytes_length_le s
    have hstored : Inv (s.storeBytes s.iqPtr (s.iqWords.flatMap wordBytes)) :=
      hs.store fun _ => ⟨hram.1, (Nat.add_le_add_left hfits _).trans hram.2⟩
    rw [iqCapture_of_cte s hc]
    exact { hstored with
      amount_bounded := by
        have hwords := length_iqWords_le s
        have hmax := s.iqMaxcnt_lt
        simp only [BitVec.toNat_ofNat]
        omega }

/-- R138: the bytes of a reception go to the session's buffer. -/
theorem Inv.storePacket {s : State} (hs : Inv s) (hr : s.radioState = .rx) :
    Inv (s.storeBytes s.packetPtr s.rxStored) := by
  have hsess : s.session ≠ .none := by rw [hs.session_fits, hr]; nofun
  have hram := hs.region_in_ram hsess (hs.packetRegion_mem hsess)
  exact hs.store fun _ => ⟨hram.1, (Nat.add_le_add_left (rxStored_length_le s) _).trans hram.2⟩

/-! ### Every effect keeps the invariant -/

/-- R170: what an instruction can do keeps the invariant. -/
theorem ExecEffect.inv {s t : State} (h : ExecEffect s t) (hs : Inv s) : Inv t := by
  cases h with
  | same => exact hs
  | hfclk => exact hs.startHfclk
  | clearHfEvent => exact { hs with hf_event := nofun }
  | session kind hk hp h => exact hs.beginSession hk hp h
  | start hp h => exact hs.startTask
  | write hp hb r d => exact hs.writeReg hb r d
  | powerUp hb => exact hs.powerUp hb
  | powerDown hb => exact hs.powerDown hb
  | read _ | clearEvent _ _ | pattern _ _ _ | noPattern _ _ | pdu _ => exact hs.congr rfl

/-- R104, R105: what a statement of HOST can do keeps the invariant. -/
theorem HostEffect.inv {s t : State} (h : HostEffect s t) (hs : Inv s) : Inv t := by
  cases h with
  | bus u hu bind =>
    cases bind with
    | none => exact (hu.inv hs).congr rfl
    | some v => exact ((hu.inv hs).bindWord v u.busData).congr rfl
  | poll u hu v =>
    unfold State.finishPoll
    split
    · exact (hu.inv hs).congr rfl
    · exact hu.inv hs
  | store a bytes ho _ =>
    have hin : bytes ≠ [] → _ := fun hne => firstOutsideRam_none ho (List.length_pos_iff.mpr hne)
    exact (hs.store hin).congr rfl
  | load v bytes => exact (hs.bindBytes v bytes).congr rfl
  | idle => exact hs
  | pdu _ _ | jump _ | ret _ => exact hs.congr rfl

/-- R189, R190: a ramp-up ends in the session's idle state, or at the start of its frame. -/
theorem Inv.rampUp {s : State} (hs : Inv s) {idle : RadioState} (hidle : idle.sessionOf = s.radioState.sessionOf)
    (htx : idle ≠ .tx) (hrx : idle ≠ .rx) : Inv (s.rampUp idle) := by
  have hmoved : Inv { s with radioState := idle, events := { s.events with ready := true } } :=
    (hs.move idle s.phase hidle ⟨fun h => absurd h htx, fun h => absurd h hrx⟩).congr rfl
  cases h : s.readyStart with
  | false => rwa [rampUp_of_no_shortcut h]
  | true =>
    rw [rampUp_of_shortcut h]
    exact hmoved.startTask

/-- R191: each row of RADIO's step table keeps the invariant. -/
theorem RadioEffect.inv {s t : State} (h : RadioEffect s t) (hs : Inv s) : Inv t := by
  have htx (hr : s.radioState = .tx) (p : Phase) (hp : p ≠ .search) : Inv { s with phase := p } :=
    hs.move s.radioState p rfl ⟨fun _ => hp, fun h => absurd (hr.symm.trans h) nofun⟩
  have hrx (hr : s.radioState = .rx) {u : State} (hu : Inv u) (hru : u.radioState = s.radioState) (p : Phase)
      (hp : p ≠ .addr) : Inv { u with phase := p } :=
    hu.move u.radioState p rfl ⟨fun h => absurd (hr.symm.trans (hru.symm.trans h)) nofun, fun _ => hp⟩
  cases h with
  | idle => exact hs
  | rampUpTx _ hr => exact hs.rampUp (by rw [hr]; rfl) nofun nofun
  | rampUpRx _ hr => exact hs.rampUp (by rw [hr]; rfl) nofun nofun
  | disable _ _ => exact hs.disableStep
  | txAddr _ hr _ => exact (htx hr .payload nofun).congr rfl
  | txPayload _ hr _ _ => exact (htx hr .crc nofun).congr rfl
  | txCrc _ hr _ => exact (htx hr .cte nofun).congr rfl
  | txCte _ hr _ =>
    have hsession : s.txCteStep.radioState.sessionOf = s.radioState.sessionOf :=
      State.signal_phyend_sessionOf { s with airLog := s.airLog ++ [s.airRecord] }
    exact (hs.move _ .done hsession ⟨nofun, nofun⟩).congr (by simp [State.invView])
  | rxPayload _ hr _ => exact (hrx hr (hs.storePacket hr) rfl .crc nofun).congr rfl
  | rxCrc _ hr _ => exact (hrx hr hs rfl .cte nofun).congr (by simp [State.invView])
  | rxCte _ hr _ =>
    have hsession : s.rxCteStep.radioState.sessionOf = s.iqCapture.radioState.sessionOf :=
      State.signal_phyend_sessionOf s.iqCapture
    exact ((hs.iqCapture hr).move _ .done hsession ⟨nofun, nofun⟩).congr (by simp [State.invView])

/-- R137: AIR's turn keeps the invariant; a frame delivered sets RXMATCH to 0. -/
theorem AirEffect.inv {s t : State} (h : AirEffect s t) (hs : Inv s) : Inv t := by
  cases h with
  | silent => exact hs
  | unheard => exact hs.congr rfl
  | deliver f hears =>
    have hmoved := hs.move s.radioState .payload rfl ⟨nofun, nofun⟩
    exact hmoved.congr (by simp [State.invView, hs.rx_match_zero])

/-- R170: every agent's turn keeps the invariant. -/
theorem agentStep_inv {a : Agent} {s t : State} (h : agentStep a s = .next t) (hs : Inv s) : Inv t := by
  cases a with
  | host => exact (hostStep_effect h).inv hs
  | radio => exact (radioStep_effect h).inv hs
  | clock => cases h; exact hs.clockStep
  | air => cases h; exact (airStep_effect s).inv hs

end Sys2Proof.Machine
end

section
/-!
PROOFS. What each turn leaves alone: the memory map (R10), RAM outside the DMA regions at RADIO's turn and inside them at
HOST's (R76, R84), the clock once it runs (R172), the air log but for one record (R136).
-/

namespace Sys2Proof.Machine

/-! ### Instructions -/

/-- R70, R81: no instruction touches RAM, HOST's own state, AIR, the log, the turns or the run's outcome. -/
theorem ExecEffect.leaves {s t : State} (h : ExecEffect s t) :
    t.ram = s.ram ∧ t.memMap = s.memMap ∧ t.airLog = s.airLog ∧ t.airIn = s.airIn ∧ t.script = s.script ∧
      t.hpc = s.hpc ∧ t.wordVars = s.wordVars ∧ t.byteVars = s.byteVars ∧ t.result = s.result ∧ t.turns = s.turns ∧
      t.tick = s.tick ∧ t.fault = s.fault ∧ t.refused = s.refused := by
  cases h with
  | same | clearHfEvent | powerUp _ | pdu _ => and_intros <;> rfl
  | read _ | hfclk | session _ _ _ _ | start _ _ | clearEvent _ _ | write _ _ _ _ | pattern _ _ _ | noPattern _ _
  | powerDown _ => simp

theorem ExecEffect.ram_eq {s t : State} (h : ExecEffect s t) : t.ram = s.ram := h.leaves.1

theorem ExecEffect.memMap_eq {s t : State} (h : ExecEffect s t) : t.memMap = s.memMap := h.leaves.2.1

theorem ExecEffect.airLog_eq {s t : State} (h : ExecEffect s t) : t.airLog = s.airLog := h.leaves.2.2.1

/-- R171: an instruction changes the clock's state only by starting it from OFF. -/
theorem ExecEffect.hfState_eq {s t : State} (h : ExecEffect s t) : t.hfState = s.hfState ∨ s.hfState = .off := by
  cases h with
  | hfclk =>
    cases hs : s.hfState with
    | off => exact .inr rfl
    | starting => rw [startHfclk_of_starting hs]; exact .inl hs
    | running => rw [startHfclk_of_running hs]; exact .inl hs
  | same | clearHfEvent | powerUp _ | pdu _ => exact .inl rfl
  | read _ | session _ _ _ _ | start _ _ | clearEvent _ _ | write _ _ _ _ | pattern _ _ _ | noPattern _ _
  | powerDown _ => exact .inl (by simp)

/-- Settles O16: what holds of every effect of an instruction, and of RAM byte by byte. -/
theorem instructionsLeaveMemoryAndAgentsAlone : Obligations.InstructionsLeaveMemoryAndAgentsAlone := by
  intro i s t h
  have heffect := exec_effect h
  obtain ⟨hram, hmap, hlog, hin, hscript, hhpc, hwords, hbytes, hresult, hturns, htick, hfault, hrefused⟩ :=
    heffect.leaves
  exact ⟨hram, hmap, hlog, hin, hscript, hhpc, hwords, hbytes, hresult, hturns, htick, hfault, hrefused,
    ramByte_congr hram⟩

/-! ### HOST's turn -/

/-- A view of the state that shows none of HOST's own bookkeeping: its index, variables and results. -/
structure HostBlind {α : Type} (f : State → α) : Prop where
  hpc : ∀ s v, f { s with hpc := v } = f s
  wordVars : ∀ s v, f { s with wordVars := v } = f s
  byteVars : ∀ s v, f { s with byteVars := v } = f s
  filterAddr : ∀ s v, f { s with filterAddr := v } = f s
  pduResult : ∀ s v, f { s with pduResult := v } = f s
  result : ∀ s v, f { s with result := v } = f s

theorem HostBlind.finishBus {α : Type} {f : State → α} (hf : HostBlind f) (bind : Option Nat) (u : State) :
    f (u.finishBus bind) = f u := by
  cases bind with
  | none => exact hf.hpc u _
  | some v => exact (hf.hpc (u.bindWord v u.busData) _).trans (hf.wordVars u _)

theorem HostBlind.finishPoll {α : Type} {f : State → α} (hf : HostBlind f) (v : Word) (u : State) :
    f (u.finishPoll v) = f u := by
  unfold State.finishPoll
  split
  · exact hf.hpc u _
  · rfl

/-- R104, R105: beside its own bookkeeping HOST's turn runs one instruction or stores bytes of RAM that no session
owns. -/
theorem HostEffect.exec_or_store {s t : State} (h : HostEffect s t) {α : Type} {f : State → α} (hf : HostBlind f) :
    (∃ u, ExecEffect s u ∧ f t = f u) ∨
      ∃ a bytes, s.firstRace a bytes.length = none ∧ f t = f (s.storeBytes a bytes) := by
  cases h with
  | bus u hu bind => exact .inl ⟨u, hu, hf.finishBus bind u⟩
  | poll u hu v => exact .inl ⟨u, hu, hf.finishPoll v u⟩
  | store a bytes _ hr => exact .inr ⟨a, bytes, hr, hf.hpc _ _⟩
  | pdu a r =>
    exact .inl ⟨s, .same, (hf.hpc _ _).trans ((hf.filterAddr { s with pduResult := r } a).trans (hf.pduResult s r))⟩
  | load v bytes => exact .inl ⟨s, .same, (hf.hpc _ _).trans (hf.byteVars s _)⟩
  | jump target => exact .inl ⟨s, .same, hf.hpc s target⟩
  | ret r => exact .inl ⟨s, .same, (hf.hpc _ _).trans (hf.result s (some r))⟩
  | idle => exact .inl ⟨s, .same, rfl⟩

/-- R104: a view without RAM either changes by HOST's instruction only. -/
theorem HostEffect.exec_of_ram_blind {s t : State} (h : HostEffect s t) {α : Type} {f : State → α}
    (hf : HostBlind f) (hram : ∀ s v, f { s with ram := v } = f s) : ∃ u, ExecEffect s u ∧ f t = f u := by
  obtain hexec | ⟨a, bytes, -, hstore⟩ := h.exec_or_store hf
  · exact hexec
  · exact ⟨s, .same, hstore.trans (hram s _)⟩

/-- Settles O13: an instruction writes no RAM, and a store that completes reaches no byte of a session in flight. -/
theorem hostLeavesTheDmaRegions : Obligations.HostLeavesTheDmaRegions := by
  intro s t a hsess h hdma
  have hblind : HostBlind State.ram := by constructor <;> intros <;> rfl
  obtain ⟨u, hu, ht⟩ | ⟨b, bytes, hrace, ht⟩ := (hostStep_effect h).exec_or_store hblind
  · exact ramByte_congr (ht.trans hu.ram_eq) a
  · refine ramByte_of_outside ht ?_
    by_contra hin
    have hclear := firstRace_none hrace hsess (k := a - b) (by omega)
    rw [Nat.add_sub_cancel' (by omega), hdma] at hclear
    exact absurd hclear nofun

/-! ### AIR's turn -/

theorem AirEffect.memMap_eq {s t : State} (h : AirEffect s t) : t.memMap = s.memMap := by cases h <;> rfl

theorem AirEffect.hfState_eq {s t : State} (h : AirEffect s t) : t.hfState = s.hfState := by cases h <;> rfl

theorem AirEffect.airLog_eq {s t : State} (h : AirEffect s t) : t.airLog = s.airLog := by cases h <;> rfl

/-! ### The memory map -/

/-- R10: every agent's turn leaves the memory map. -/
theorem agentStep_memMap {a : Agent} {s t : State} (h : agentStep a s = .next t) : t.memMap = s.memMap := by
  cases a with
  | host =>
    have hblind : HostBlind State.memMap := by constructor <;> intros <;> rfl
    obtain ⟨u, hu, ht⟩ := (hostStep_effect h).exec_of_ram_blind hblind fun _ _ => rfl
    exact ht.trans hu.memMap_eq
  | radio => cases radioStep_effect h <;> simp
  | clock =>
    cases h
    unfold clockStep
    split <;> rfl
  | air => cases h; exact (airStep_effect s).memMap_eq

/-- Settles O11: every step is a turn of some agent on the state whose turn has begun. -/
theorem everyStepKeepsTheInvariant : Obligations.EveryStepKeepsTheInvariant := by
  intro s t hs h
  obtain ⟨-, -, hturn⟩ := step_next h
  exact ⟨agentStep_inv hturn (hs.congr rfl), (agentStep_memMap hturn).trans rfl⟩

/-! ### RAM at RADIO's turn -/

/-- R53, R76: an address no region holds is before or past each of them. -/
theorem outside_of_inDma_false {s : State} {a : Nat} (h : s.inDma a = false) {g : Region} (hg : g ∈ s.dmaRegions) :
    a < g.start ∨ g.start + g.len ≤ a := by
  have hnot : ¬ g.holds a = true := by
    intro hin
    have : s.inDma a = true := List.any_eq_true.mpr ⟨g, hg, hin⟩
    simp [this] at h
  rw [Region.holds_iff] at hnot
  omega

/-- Settles O12: the two steps that write RAM write the packet region and the IQ region. -/
theorem radioWritesOnlyItsDmaRegions : Obligations.RadioWritesOnlyItsDmaRegions := by
  intro s t a hs h hdma
  cases radioStep_effect h with
  | rxPayload _ hr _ =>
    have hsess : s.session ≠ .none := by rw [hs.session_fits, hr]; nofun
    have hout := outside_of_inDma_false hdma (hs.packetRegion_mem hsess)
    have hlen := rxStored_length_le s
    exact ramByte_of_outside s.rxPayloadStep_ram (hout.imp_right (Nat.le_trans (Nat.add_le_add_left hlen _)))
  | rxCte _ hr _ =>
    cases hc : s.cteEnabled with
    | false => exact ramByte_congr (by rw [State.rxCteStep_ram, iqCapture_of_no_cte s hc]) a
    | true =>
      have hsess : s.session = .rx := by rw [hs.session_fits, hr]; rfl
      have hout := outside_of_inDma_false hdma (hs.iqRegion_mem hsess hc)
      have hlen := iqBytes_length_le s
      have hram : s.rxCteStep.ram = writeBytes s.ram s.iqPtr (s.iqWords.flatMap wordBytes) := by
        rw [State.rxCteStep_ram, iqCapture_of_cte s hc]
      exact ramByte_of_outside hram (hout.imp_right (Nat.le_trans (Nat.add_le_add_left hlen _)))
  | idle | rampUpTx _ _ | rampUpRx _ _ | disable _ _ | txAddr _ _ _ | txPayload _ _ _ _ | txCrc _ _ _ | txCte _ _ _
  | rxCrc _ _ _ => exact ramByte_congr (by simp) a

/-! ### The HF clock -/

theorem clockStep_of_starting {s : State} (h : s.hfState = .starting) :
    clockStep s = { s with hfState := .running, evHfclkStarted := true } := by
  simp only [clockStep, h]

theorem clockStep_of_not_starting {s : State} (h : s.hfState ≠ .starting) : clockStep s = s := by
  cases hs : s.hfState with
  | starting => exact absurd hs h
  | off | running => simp only [clockStep, hs]

/-- R171, R172: the clock's state changes by HOST's start from OFF and by CLOCK's own step while starting. -/
theorem agentStep_hfState {a : Agent} {s t : State} (h : agentStep a s = .next t) :
    t.hfState = s.hfState ∨ s.hfState = .off ∨ (a = .clock ∧ s.hfState = .starting ∧ t.hfState = .running) := by
  cases a with
  | host =>
    have hblind : HostBlind State.hfState := by constructor <;> intros <;> rfl
    obtain ⟨u, hu, ht⟩ := (hostStep_effect h).exec_of_ram_blind hblind fun _ _ => rfl
    rw [ht]
    exact hu.hfState_eq.imp_right .inl
  | radio => exact .inl (by cases radioStep_effect h <;> simp)
  | clock =>
    cases h
    by_cases hs : s.hfState = .starting
    · rw [clockStep_of_starting hs]
      exact .inr (.inr ⟨rfl, hs, rfl⟩)
    · rw [clockStep_of_not_starting hs]
      exact .inl rfl
  | air => cases h; exact .inl (airStep_effect s).hfState_eq

/-- Settles O17: CLOCK's step by clock state, and what a turn does to a clock that runs. -/
theorem theHfClockNeverStops : Obligations.TheHfClockNeverStops := by
  refine ⟨fun _ => clockStep_of_starting, fun _ => clockStep_of_not_starting, fun s t h hrun => ?_⟩
  obtain ⟨-, -, hturn⟩ := step_next h
  obtain hkept | hoff | ⟨-, -, hruns⟩ := agentStep_hfState hturn
  · exact hkept.trans hrun
  · exact nomatch hrun.symm.trans hoff
  · exact hruns

/-! ### The air log -/

/-- R136: RADIO's turn logs a record at the CTE step of a transmission. -/
theorem RadioEffect.airLog_eq {s t : State} (h : RadioEffect s t) :
    t.airLog = s.airLog ∨
      (s.powered = true ∧ s.radioState = .tx ∧ s.phase = .cte ∧ t.airLog = s.airLog ++ [s.airRecord]) := by
  cases h with
  | txCte hp hr hf => exact .inr ⟨hp, hr, hf, s.txCteStep_airLog⟩
  | idle | rampUpTx _ _ | rampUpRx _ _ | disable _ _ | txAddr _ _ _ | txPayload _ _ _ _ | txCrc _ _ _
  | rxPayload _ _ _ | rxCrc _ _ _ | rxCte _ _ _ => exact .inl (by simp)

/-- Settles O18: no other agent touches the log. -/
theorem theAirLogOnlyGrows : Obligations.TheAirLogOnlyGrows := by
  intro s t h
  obtain ⟨-, -, hturn⟩ := step_next h
  cases ha : s.nextAgent with
  | host =>
    rw [ha] at hturn
    have hblind : HostBlind State.airLog := by constructor <;> intros <;> rfl
    obtain ⟨u, hu, ht⟩ := (hostStep_effect hturn).exec_of_ram_blind hblind fun _ _ => rfl
    exact .inl (ht.trans hu.airLog_eq)
  | radio =>
    rw [ha] at hturn
    exact (radioStep_effect hturn).airLog_eq.imp_right fun hcte => ⟨rfl, hcte⟩
  | clock =>
    rw [ha] at hturn
    cases hturn
    unfold clockStep
    split <;> exact .inl rfl
  | air =>
    rw [ha] at hturn
    cases hturn
    exact .inl (airStep_effect s.beginTurn).airLog_eq

end Sys2Proof.Machine
end

section
/-!
PROOFS. Which instructions are plain: all but HOST's START and the power-down keep the status registers, the hidden
datapath and, outside DISABLED, the state of the radio (R173, R181, R184).
-/

namespace Sys2Proof.Machine

/-! ### The hidden registers as one value -/

/-- The hidden registers whose reset value R290 leaves unspecified. -/
structure Hidden where
  phase : Phase
  crcReg : BitVec 24
  whiteLfsr : BitVec 7
  curLen : Byte
  curS0 : Byte
  rxFrame : AirFrame
  rxSeed : Nat

/-- The hidden registers of a state. -/
def State.hidden (s : State) : Hidden :=
  { phase := s.phase
    crcReg := s.crcReg
    whiteLfsr := s.whiteLfsr
    curLen := s.curLen
    curS0 := s.curS0
    rxFrame := s.rxFrame
    rxSeed := s.rxSeed }

/-- A state with other hidden registers. -/
def State.withHidden (s : State) (h : Hidden) : State :=
  { s with
    phase := h.phase
    crcReg := h.crcReg
    whiteLfsr := h.whiteLfsr
    curLen := h.curLen
    curS0 := h.curS0
    rxFrame := h.rxFrame
    rxSeed := h.rxSeed }

/-- R50: the states in which no frame is on its way. -/
def RadioState.unloaded (r : RadioState) : Prop := r ≠ .tx ∧ r ≠ .rx

/-! ### Plain instructions -/

/-- What an instruction other than START and the power-down keeps. -/
structure Plain (s t : State) : Prop where
  status : t.crcStatus = s.crcStatus ∧ t.rxMatch = s.rxMatch ∧ t.rxCrc = s.rxCrc ∧ t.amount = s.amount
  hidden : t.hidden = s.hidden
  radio : t.radioState = s.radioState ∨ (s.radioState = .disabled ∧ t.radioState.unloaded)

theorem Plain.refl (s : State) : Plain s s := ⟨⟨rfl, rfl, rfl, rfl⟩, rfl, .inl rfl⟩

theorem Plain.readBus (s : State) (w : Word) : Plain s (s.readBus w) := ⟨⟨rfl, rfl, rfl, rfl⟩, rfl, .inl rfl⟩

theorem Plain.startHfclk (s : State) : Plain s s.startHfclk := by
  refine ⟨by simp, ?_, .inl (by simp)⟩
  unfold State.startHfclk
  split <;> rfl

/-- R180: a session starts in its ramp-up state, from DISABLED. -/
theorem Plain.of_sessionStart {kind : Session} {s t : State} (h : sessionStart kind s = .next t) : Plain s t := by
  obtain ⟨-, hr, -, -, -, -, -, rfl⟩ := sessionStart_next h
  refine ⟨⟨rfl, rfl, rfl, rfl⟩, rfl, .inr ⟨hr, ?_⟩⟩
  cases kind <;> exact ⟨nofun, nofun⟩

theorem Plain.of_task {act : State → Out} {op : BusOp} {s t : State} (h : taskAccess act op s = .next t)
    (hact : act s = .next t → Plain s t) : Plain s t := by
  obtain ⟨d, -, -, ⟨-, h⟩ | ⟨-, rfl⟩⟩ := taskAccess_next h
  · exact hact h
  · exact .refl _

theorem Plain.of_event {e : Event} {op : BusOp} {s t : State} (h : eventAccess e op s = .next t) : Plain s t := by
  obtain ⟨-, ⟨-, rfl⟩ | ⟨-, rfl⟩⟩ := eventAccess_next h
  · exact .readBus s _
  · exact ⟨⟨rfl, rfl, rfl, rfl⟩, rfl, .inl rfl⟩

theorem Plain.of_config {r : CfgReg} {op : BusOp} {s t : State} (h : configAccess r op s = .next t) : Plain s t := by
  obtain ⟨-, ⟨-, rfl⟩ | ⟨d, -, -, rfl⟩⟩ := configAccess_next h
  · exact .readBus s _
  · exact ⟨⟨rfl, rfl, rfl, rfl⟩, rfl, .inl rfl⟩

theorem Plain.of_status {value : State → Word} {op : BusOp} {s t : State} (h : statusAccess value op s = .next t) :
    Plain s t := by
  obtain ⟨-, -, rfl⟩ := statusAccess_next h
  exact .readBus s _

/-- R188: a SHORTS access that completes is a configuration access. -/
theorem shorts_next {op : BusOp} {s t : State} (h : exec (.shorts op) s = .next t) :
    configAccess .shorts op s = .next t := by
  cases op with
  | rd => exact h
  | wr d =>
    by_cases hd : d &&& ~~~fieldMask .shorts = 0#32
    · rwa [exec_shorts_of_supported hd] at h
    · exact nomatch (ifPowered_next ((if_neg hd).symm.trans h)).2

theorem Plain.of_clockTask {op : BusOp} {s t : State} (h : exec (.clockTasksHfclkstart op) s = .next t) :
    Plain s t := by
  cases op with
  | rd => exact nomatch h
  | wr d =>
    cases hd : d.getLsbD 0 with
    | true =>
      rw [exec_clockTasksHfclkstart_of_bit hd] at h
      cases h
      exact .startHfclk s
    | false =>
      rw [exec_clockTasksHfclkstart_of_no_bit hd] at h
      cases h
      exact .refl s

theorem Plain.of_clockEvent {op : BusOp} {s t : State} (h : exec (.clockEventsHfclkstarted op) s = .next t) :
    Plain s t := by
  cases op with
  | rd => cases h; exact .readBus s _
  | wr d =>
    by_cases hd : d = 0#32
    · subst hd
      cases h
      exact ⟨⟨rfl, rfl, rfl, rfl⟩, rfl, .inl rfl⟩
    · rw [exec_clockEventsHfclkstarted_of_ne_zero hd] at h
      cases h

theorem Plain.of_switchpattern {op : BusOp} {s t : State} (h : exec (.switchpattern op) s = .next t) :
    Plain s t := by
  cases op with
  | rd => exact nomatch h
  | wr d =>
    obtain ⟨-, h⟩ := ifPowered_next h
    split at h <;> cases h
    exact ⟨⟨rfl, rfl, rfl, rfl⟩, rfl, .inl rfl⟩

theorem Plain.of_clearpattern {op : BusOp} {s t : State} (h : exec (.clearpattern op) s = .next t) :
    Plain s t := by
  cases op with
  | rd => exact nomatch h
  | wr d =>
    obtain ⟨-, h⟩ := ifPowered_next h
    split_ifs at h <;> cases h
    · exact ⟨⟨rfl, rfl, rfl, rfl⟩, rfl, .inl rfl⟩
    · exact .refl s

/-- R173: what a POWER access that completes has done. -/
theorem power_next {op : BusOp} {s t : State} (h : exec (.power op) s = .next t) :
    (∃ d, op = .wr d ∧ d.getLsbD 0 = false ∧ t = s.powerDown) ∨ Plain s t := by
  cases op with
  | rd => cases h; exact .inr (.readBus s _)
  | wr d =>
    simp only [exec, execPower] at h
    split_ifs at h with hb hd <;> cases h
    · exact .inr ⟨⟨rfl, rfl, rfl, rfl⟩, rfl, .inl rfl⟩
    · exact .inl ⟨d, rfl, by simpa using hd, rfl⟩

/-- R184: what a START access that completes has done. -/
theorem start_next {op : BusOp} {s t : State} (h : exec (.tasksStart op) s = .next t) :
    (∃ d, op = .wr d ∧ d.getLsbD 0 = true) ∨ t = s := by
  obtain ⟨d, hop, -, ⟨hd, -⟩ | ⟨-, rfl⟩⟩ := taskAccess_next h
  · exact .inl ⟨d, hop, hd⟩
  · exact .inr rfl

/-- R173, R181, R184: START and the power-down are the only instructions that are not plain. -/
theorem exec_plain {i : Instr} {s t : State} (h : exec i s = .next t)
    (hstart : ∀ d : Word, d.getLsbD 0 = true → i ≠ .tasksStart (.wr d))
    (hdown : ∀ d : Word, d.getLsbD 0 = false → i ≠ .power (.wr d)) : Plain s t := by
  cases i
  case clockTasksHfclkstart => exact .of_clockTask h
  case clockEventsHfclkstarted => exact .of_clockEvent h
  case tasksTxen => exact .of_task h .of_sessionStart
  case tasksRxen => exact .of_task h .of_sessionStart
  case tasksStart =>
    obtain ⟨d, rfl, hd⟩ | rfl := start_next h
    · exact absurd rfl (hstart d hd)
    · exact .refl _
  case tasksStop => exact .of_task (act := fun _ => .refused .unsupported) h nofun
  case tasksDisable => exact .of_task (act := fun _ => .refused .unsupported) h nofun
  case shorts => exact .of_config (shorts_next h)
  case intenset => exact nomatch (ifPowered_next h).2
  case intenclr => exact nomatch (ifPowered_next h).2
  case crcstatus => exact .of_status (value := fun t => zextBool t.crcStatus) h
  case rxmatch => exact .of_status (value := fun t => t.rxMatch.zeroExtend 32) h
  case rxcrc => exact .of_status (value := fun t => t.rxCrc.zeroExtend 32) h
  case state => exact .of_status (value := fun t => stateCode t.radioState) h
  case dfepacketAmount => exact .of_status (value := fun t => t.amount.zeroExtend 32) h
  case switchpattern => exact .of_switchpattern h
  case clearpattern => exact .of_clearpattern h
  case power =>
    obtain ⟨d, rfl, hd, -⟩ | hplain := power_next h
    · exact absurd rfl (hdown d hd)
    · exact hplain
  case advNonconnInd => cases h; exact ⟨⟨rfl, rfl, rfl, rfl⟩, rfl, .inl rfl⟩
  case eventsReady | eventsAddress | eventsPayload | eventsEnd | eventsDisabled |
      eventsCrcok | eventsCrcerror | eventsPhyend =>
    exact .of_event h
  all_goals exact .of_config h

/-- R181: START keeps the status registers. -/
theorem startTask_status (s : State) :
    s.startTask.crcStatus = s.crcStatus ∧ s.startTask.rxMatch = s.rxMatch ∧ s.startTask.rxCrc = s.rxCrc ∧
      s.startTask.amount = s.amount := by simp

/-- R184: all a START that completes can have done. -/
theorem exec_start_of_bit {d : Word} {s t : State} (hd : d.getLsbD 0 = true)
    (h : exec (.tasksStart (.wr d)) s = .next t) :
    (s.radioState = .txidle ∨ s.radioState = .rxidle) ∧ t = s.startTask := by
  obtain ⟨-, h⟩ := ifPowered_next h
  rw [if_pos hd, hostStart] at h
  split at h
  · cases h; exact ⟨‹_›, rfl⟩
  · cases h

/-- Settles O14: a START keeps the status registers, and every other instruction but the power-down is plain. -/
theorem onlyPowerDownWritesStatusFromHost : Obligations.OnlyPowerDownWritesStatusFromHost := by
  intro i s t h hdown
  by_cases hstart : ∀ d : Word, d.getLsbD 0 = true → i ≠ .tasksStart (.wr d)
  · exact (exec_plain h hstart hdown).status
  · push Not at hstart
    obtain ⟨d, hd, rfl⟩ := hstart
    obtain ⟨-, rfl⟩ := exec_start_of_bit hd h
    exact startTask_status s

end Sys2Proof.Machine
end

section
/-!
PROOFS. The hidden registers that no frame has loaded are never read (R290): `forget` replaces them, every turn of every
agent answers alike on the state and on what `forget` leaves of it, and the states it answers forget to the same one.
-/

namespace Sys2Proof.Machine

/-! ### What `forget` keeps -/

/-- R290: the hidden registers with none loaded, in a phase. -/
def Hidden.blank (p : Phase) : Hidden :=
  { phase := p, crcReg := 0#24, whiteLfsr := 0#7, curLen := 0#8, curS0 := 0#8, rxFrame := silentFrame, rxSeed := 0 }

/-- What of the hidden registers a frame has loaded, by state and phase. -/
def Hidden.loaded (r : RadioState) (h : Hidden) : Hidden :=
  match r with
  | .tx =>
    match h.phase with
    | .addr => Hidden.blank .addr
    | .payload => { Hidden.blank .payload with crcReg := h.crcReg, whiteLfsr := h.whiteLfsr }
    | _ => { h with rxFrame := silentFrame, rxSeed := 0 }
  | .rx =>
    match h.phase with
    | .search => Hidden.blank .search
    | .payload => { h with curLen := 0#8, curS0 := 0#8 }
    | _ => h
  | _ => Hidden.blank .done

theorem forget_eq (s : State) : s.forget = s.withHidden (s.hidden.loaded s.radioState) := by
  rcases s with ⟨_, _, _, _, _, _, _, _, _, _, _, _, r, p⟩
  cases r with
  | tx | rx => cases p <;> rfl
  | disabled | txru | txidle | txdisable | rxru | rxidle | rxdisable => rfl

/-- R290: outside TX and RX nothing is loaded. -/
theorem Hidden.loaded_of_unloaded {r : RadioState} (hr : r.unloaded) (h : Hidden) : h.loaded r = Hidden.blank .done := by
  cases r with
  | tx => exact absurd rfl hr.1
  | rx => exact absurd rfl hr.2
  | disabled | txru | txidle | txdisable | rxru | rxidle | rxdisable => rfl

/-- Keeping what is loaded twice is keeping it once. -/
theorem Hidden.loaded_loaded (r : RadioState) (h : Hidden) : (h.loaded r).loaded r = h.loaded r := by
  rcases h with ⟨p, _⟩
  cases r <;> cases p <;> rfl

/-- A state that holds only what was loaded forgets like the one that holds all. -/
theorem forget_withHidden {s t : State} (hhidden : t.hidden = s.hidden)
    (hr : t.radioState = s.radioState ∨ t.radioState.unloaded) :
    (t.withHidden (s.hidden.loaded s.radioState)).forget = t.forget := by
  rw [forget_eq, forget_eq t, hhidden]
  have hloaded : (s.hidden.loaded s.radioState).loaded t.radioState = s.hidden.loaded t.radioState := by
    obtain hr | hr := hr
    · rw [hr, Hidden.loaded_loaded]
    · rw [Hidden.loaded_of_unloaded hr, Hidden.loaded_of_unloaded hr]
  exact congrArg t.withHidden hloaded

@[simp] theorem forget_forget (s : State) : s.forget.forget = s.forget := by
  have h := forget_withHidden (s := s) (t := s) rfl (.inl rfl)
  rwa [← forget_eq] at h

/-- An update that neither reads nor writes the hidden registers and keeps the state of the radio. -/
structure Unhidden (f : State → State) : Prop where
  commutes : ∀ s h, f (s.withHidden h) = (f s).withHidden h
  hidden : ∀ s, (f s).hidden = s.hidden
  radioState : ∀ s, (f s).radioState = s.radioState

theorem Unhidden.forget {f : State → State} (hf : Unhidden f) (s : State) : (f s.forget).forget = (f s).forget := by
  rw [forget_eq s, hf.commutes]
  exact forget_withHidden (hf.hidden s) (.inl (hf.radioState s))

/-! ### Outcomes -/

@[simp] theorem forgetOut_next (t : State) : forgetOut (.next t) = .next t.forget := rfl
@[simp] theorem forgetOut_fault (r : Fault) : forgetOut (.fault r) = .fault r := rfl
@[simp] theorem forgetOut_refused (r : Refusal) : forgetOut (.refused r) = .refused r := rfl

/-- What an outcome forgets to after an update that does not see the hidden registers. -/
theorem forgetOut_andThen {f : State → State} (hf : Unhidden f) (o : Out) :
    forgetOut (andThen o f) = forgetOut (andThen (forgetOut o) f) := by
  cases o with
  | next t => exact congrArg Host.Outcome.next (hf.forget t).symm
  | fault r => rfl
  | refused r => rfl

/-! ### Instructions -/

theorem andThen_ite (c : Prop) [Decidable c] (o o' : Out) (f : State → State) :
    andThen (if c then o else o') f = if c then andThen o f else andThen o' f := by split <;> rfl

/-- An access that neither reads nor writes the hidden registers. -/
def HiddenBlind (e : State → Out) : Prop := ∀ s h, e (s.withHidden h) = andThen (e s) fun t => t.withHidden h

theorem HiddenBlind.ifPowered {e : State → Out} (he : HiddenBlind e) : HiddenBlind fun s => s.ifPowered (e s) := by
  intro s h
  have hpowered : (s.withHidden h).powered = s.powered := rfl
  simp only [State.ifPowered, hpowered, he s h, andThen_ite]
  rfl

theorem HiddenBlind.ite {c : State → Prop} [∀ s, Decidable (c s)] (hc : ∀ s h, c (s.withHidden h) ↔ c s)
    {e e' : State → Out} (he : HiddenBlind e) (he' : HiddenBlind e') : HiddenBlind fun s => if c s then e s else e' s := by
  intro s h
  simp only [hc s h, he s h, he' s h, andThen_ite]

theorem HiddenBlind.refused (r : Refusal) : HiddenBlind fun _ => .refused r := fun _ _ => rfl

theorem HiddenBlind.next {f : State → State} (hf : ∀ s h, f (s.withHidden h) = (f s).withHidden h) :
    HiddenBlind fun s => .next (f s) := fun s h => congrArg Host.Outcome.next (hf s h)

theorem HiddenBlind.task {act : State → Out} (hact : HiddenBlind act) (op : BusOp) : HiddenBlind (taskAccess act op) := by
  cases op with
  | rd => exact .refused _
  | wr d => exact .ifPowered (.ite (fun _ _ => Iff.rfl) hact (.next fun _ _ => rfl))

theorem HiddenBlind.event (e : Event) (op : BusOp) : HiddenBlind (eventAccess e op) := by
  cases op with
  | rd => exact .ifPowered (.next fun _ _ => rfl)
  | wr d => exact .ifPowered (.ite (fun _ _ => Iff.rfl) (.next fun _ _ => rfl) (.refused _))

theorem HiddenBlind.config (r : CfgReg) (op : BusOp) : HiddenBlind (configAccess r op) := by
  cases op with
  | rd => exact .ifPowered (.next fun _ _ => rfl)
  | wr d => exact .ifPowered (.ite (fun _ _ => Iff.rfl) (.refused _) (.next fun _ _ => rfl))

theorem HiddenBlind.status {value : State → Word} (hvalue : ∀ s h, value (s.withHidden h) = value s) (op : BusOp) :
    HiddenBlind (statusAccess value op) := by
  cases op with
  | rd => exact .ifPowered (.next fun s h => congrArg (s.withHidden h).readBus (hvalue s h))
  | wr d => exact .refused _

theorem HiddenBlind.shorts (op : BusOp) : HiddenBlind (exec (.shorts op)) := by
  cases op with
  | rd => exact .config .shorts .rd
  | wr d => exact .ite (fun _ _ => Iff.rfl) (.config .shorts (.wr d)) (.ifPowered (.refused _))

/-- R180: the session-start check reads registers, marks, the clock and the memory map. -/
theorem HiddenBlind.sessionStart (kind : Session) : HiddenBlind (sessionStart kind) := by
  refine .ite (fun _ _ => Iff.rfl) (.refused _) (.ite (fun _ _ => Iff.rfl) (.refused _)
    (.ite (fun _ _ => Iff.rfl) (fun _ _ => rfl) (.ite (fun _ _ => Iff.rfl) (fun _ _ => rfl)
      (.ite (fun _ _ => Iff.rfl) (.refused _) fun s h => ?_))))
  have hregions : (s.withHidden h).sessionRegions kind = s.sessionRegions kind := rfl
  have hmap : (s.withHidden h).memMap = s.memMap := rfl
  simp only [hregions, hmap]
  split <;> rfl

theorem startHfclk_withHidden (s : State) (h : Hidden) : (s.withHidden h).startHfclk = s.startHfclk.withHidden h := by
  cases hs : s.hfState with
  | off => rw [startHfclk_of_off hs, startHfclk_of_off (s := s.withHidden h) hs]; rfl
  | starting => rw [startHfclk_of_starting hs, startHfclk_of_starting (s := s.withHidden h) hs]
  | running => rw [startHfclk_of_running hs, startHfclk_of_running (s := s.withHidden h) hs]; rfl

theorem HiddenBlind.clockTask (op : BusOp) : HiddenBlind (exec (.clockTasksHfclkstart op)) := by
  cases op with
  | rd => exact .refused _
  | wr d => exact .ite (fun _ _ => Iff.rfl) (.next startHfclk_withHidden) (.next fun _ _ => rfl)

theorem HiddenBlind.clockEvent (op : BusOp) : HiddenBlind (exec (.clockEventsHfclkstarted op)) := by
  cases op with
  | rd => exact .next fun _ _ => rfl
  | wr d => exact .ite (fun _ _ => Iff.rfl) (.next fun _ _ => rfl) (.refused _)

theorem HiddenBlind.switchpattern (op : BusOp) : HiddenBlind (exec (.switchpattern op)) := by
  cases op with
  | rd => exact .refused _
  | wr d => exact .ifPowered (.ite (fun _ _ => Iff.rfl) (.refused _) (.next fun _ _ => rfl))

theorem HiddenBlind.clearpattern (op : BusOp) : HiddenBlind (exec (.clearpattern op)) := by
  cases op with
  | rd => exact .refused _
  | wr d =>
    exact .ifPowered (.ite (fun _ _ => Iff.rfl) (.refused _)
      (.ite (fun _ _ => Iff.rfl) (.next fun _ _ => rfl) (.next fun _ _ => rfl)))

theorem HiddenBlind.power (op : BusOp) : HiddenBlind (exec (.power op)) := by
  cases op with
  | rd => exact .next fun _ _ => rfl
  | wr d =>
    exact .ite (fun _ _ => Iff.rfl) (.refused _)
      (.ite (fun _ _ => Iff.rfl) (.next fun _ _ => rfl) (.next fun _ _ => rfl))

/-- R290: no instruction but START reads or writes a hidden register. -/
theorem exec_hiddenBlind (i : Instr) (hstart : ∀ op, i ≠ .tasksStart op) : HiddenBlind (exec i) := by
  cases i
  case clockTasksHfclkstart op => exact .clockTask op
  case clockEventsHfclkstarted op => exact .clockEvent op
  case tasksTxen op => exact .task (.sessionStart .tx) op
  case tasksRxen op => exact .task (.sessionStart .rx) op
  case tasksStart op => exact absurd rfl (hstart op)
  case tasksStop op => exact .task (.refused .unsupported) op
  case tasksDisable op => exact .task (.refused .unsupported) op
  case shorts op => exact .shorts op
  case intenset op => exact .ifPowered (.refused .unsupported)
  case intenclr op => exact .ifPowered (.refused .unsupported)
  case crcstatus op => exact .status (value := fun t => zextBool t.crcStatus) (fun _ _ => rfl) op
  case rxmatch op => exact .status (value := fun t => t.rxMatch.zeroExtend 32) (fun _ _ => rfl) op
  case rxcrc op => exact .status (value := fun t => t.rxCrc.zeroExtend 32) (fun _ _ => rfl) op
  case state op => exact .status (value := fun t => stateCode t.radioState) (fun _ _ => rfl) op
  case dfepacketAmount op => exact .status (value := fun t => t.amount.zeroExtend 32) (fun _ _ => rfl) op
  case switchpattern op => exact .switchpattern op
  case clearpattern op => exact .clearpattern op
  case power op => exact .power op
  case advNonconnInd => exact .next fun _ _ => rfl
  case eventsReady | eventsAddress | eventsPayload | eventsEnd | eventsDisabled |
      eventsCrcok | eventsCrcerror | eventsPhyend =>
    exact .event _ _
  all_goals exact .config _ _

/-- R290: an instruction but START keeps the hidden registers, and where it changes the state of the radio none is
loaded after it. -/
theorem exec_keeps_hidden {i : Instr} {s t : State} (h : exec i s = .next t) (hstart : ∀ op, i ≠ .tasksStart op) :
    t.hidden = s.hidden ∧ (t.radioState = s.radioState ∨ t.radioState.unloaded) := by
  by_cases hdown : ∀ d : Word, d.getLsbD 0 = false → i ≠ .power (.wr d)
  · have hplain := exec_plain h (fun d _ => hstart _) hdown
    exact ⟨hplain.hidden, hplain.radio.imp_right And.right⟩
  · push Not at hdown
    obtain ⟨d, -, rfl⟩ := hdown
    obtain ⟨-, -, -, rfl⟩ | hplain := power_next h
    · exact ⟨rfl, .inr ⟨nofun, nofun⟩⟩
    · exact ⟨hplain.hidden, hplain.radio.imp_right And.right⟩

/-- R184: START leaves an idle state for the start of a frame, with nothing loaded. -/
theorem startTask_forget {s : State} (h : s.radioState = .txidle ∨ s.radioState = .rxidle) :
    s.forget.startTask.forget = s.startTask.forget := by
  have hr : s.forget.radioState = s.radioState := by rw [forget_eq]; rfl
  obtain h | h := h <;> simp only [State.startTask, hr, h] <;> rw [forget_eq s] <;> rfl

theorem start_forget (op : BusOp) (s : State) :
    forgetOut (exec (.tasksStart op) s.forget) = forgetOut (exec (.tasksStart op) s) := by
  cases op with
  | rd => rfl
  | wr d =>
    have hp : s.forget.powered = s.powered := by rw [forget_eq]; rfl
    have hr : s.forget.radioState = s.radioState := by rw [forget_eq]; rfl
    simp only [exec, execTasksStart, taskAccess, hostStart, State.ifPowered, hp, hr]
    split_ifs with _ _ hidle
    · exact congrArg Host.Outcome.next (startTask_forget hidle)
    · rfl
    · exact congrArg Host.Outcome.next (forget_forget s)
    · rfl

/-- R290: an instruction answers alike whatever the hidden registers hold that no frame has loaded. -/
theorem exec_forget (i : Instr) (s : State) : forgetOut (exec i s.forget) = forgetOut (exec i s) := by
  by_cases hstart : ∀ op, i ≠ .tasksStart op
  · rw [forget_eq, exec_hiddenBlind i hstart]
    cases h : exec i s with
    | next t =>
      obtain ⟨hhidden, hr⟩ := exec_keeps_hidden h hstart
      exact congrArg Host.Outcome.next (forget_withHidden hhidden hr)
    | fault r => rfl
    | refused r => rfl
  · push Not at hstart
    obtain ⟨op, rfl⟩ := hstart
    exact start_forget op s

/-! ### HOST's turn -/

theorem Unhidden.finishBus (bind : Option Nat) : Unhidden (State.finishBus bind) := by
  cases bind <;> exact ⟨fun _ _ => rfl, fun _ => rfl, fun _ => rfl⟩

theorem Unhidden.finishPoll (v : Word) : Unhidden (State.finishPoll v) where
  commutes s h := by
    have hdata : (s.withHidden h).busData = s.busData := rfl
    simp only [State.finishPoll, hdata]
    split <;> rfl
  hidden s := by unfold State.finishPoll; split <;> rfl
  radioState s := by unfold State.finishPoll; split <;> rfl

theorem busAccess_forget (a : BusAccess) (s : State) : forgetOut (busAccess a s.forget) = forgetOut (busAccess a s) := by
  have hmap : s.forget.memMap = s.memMap := by rw [forget_eq]; rfl
  simp only [busAccess, hmap]
  split
  · exact exec_forget _ s
  · rfl

/-- R290: a bus access with the end of its statement. -/
theorem busStmt_forget {f : State → State} (hf : Unhidden f) (a : BusAccess) (s : State) :
    forgetOut (andThen (busAccess a s.forget) f) = forgetOut (andThen (busAccess a s) f) := by
  rw [forgetOut_andThen hf, busAccess_forget, ← forgetOut_andThen hf]

/-- R84: whether a load or store stops does not depend on a hidden register. -/
theorem hostRam_forget {f : State → State} (hf : Unhidden f) (s : State) (a n : Nat) :
    forgetOut (hostRam s.forget a n (f s.forget)) = forgetOut (hostRam s a n (f s)) := by
  have hmap : s.forget.memMap = s.memMap := by rw [forget_eq]; rfl
  have hrace : s.forget.firstRace a n = s.firstRace a n := by rw [forget_eq]; rfl
  simp only [hostRam, hmap, hrace]
  split
  · rfl
  · split
    · rfl
    · exact congrArg Host.Outcome.next (hf.forget s)

/-- R105: an expression reads HOST's variables only. -/
theorem eval_withHidden (s : State) (h : Hidden) (e : Expr) : (s.withHidden h).eval e = s.eval e := by
  induction e with
  | lit n => rfl
  | word v => rfl
  | byteOf v i => rfl
  | scaled k e ih => simp only [State.eval, ih]

/-- R105: a condition reads HOST's variables only. -/
theorem holds_withHidden (s : State) (h : Hidden) (c : Cond) : (s.withHidden h).holds c = s.holds c := by
  induction c with
  | eq a b => simp only [State.holds, eval_withHidden]
  | ne a b => simp only [State.holds, eval_withHidden]
  | ge a b => simp only [State.holds, eval_withHidden]
  | and a b iha ihb => simp only [State.holds, iha, ihb]
  | or a b iha ihb => simp only [State.holds, iha, ihb]

/-- R140: PduDecode reads its byte variable and changes its result. -/
theorem Unhidden.runPduDecode (buf : Nat) (expected : BitVec 48) (s : State) :
    ∃ f, Unhidden f ∧ s.runPduDecode buf expected = .next (f s) ∧
      s.forget.runPduDecode buf expected = .next (f s.forget) := by
  have himage : s.forget.pduImageOf buf = s.pduImageOf buf := by rw [forget_eq]; rfl
  simp only [State.runPduDecode, himage]
  split
  · rename_i i hi
    obtain ⟨length, advA, advData, rfl⟩ := decodePdu_ok hi
    exact ⟨fun t => { t with filterAddr := expected, pduResult := pduMatch length advA advData expected },
      ⟨fun _ _ => rfl, fun _ => rfl, fun _ => rfl⟩, rfl, rfl⟩
  · exact ⟨fun t => { t with filterAddr := expected, pduResult := .noMatch },
      ⟨fun _ _ => rfl, fun _ => rfl, fun _ => rfl⟩, rfl, rfl⟩

/-- R290: a statement of HOST answers alike whatever the hidden registers hold that no frame has loaded. -/
theorem runStmt_forget (st : Stmt) (s : State) : forgetOut (runStmt st s.forget) = forgetOut (runStmt st s) := by
  have hforget := forget_eq s
  cases st with
  | bus a bind => exact busStmt_forget (.finishBus bind) a s
  | poll a v => exact busStmt_forget (.finishPoll v) _ s
  | store addr bytes =>
    exact hostRam_forget (f := fun t => (t.storeBytes addr.toNat bytes).advance)
      ⟨fun _ _ => rfl, fun _ => rfl, fun _ => rfl⟩ s _ _
  | storeWord addr v =>
    exact hostRam_forget (f := fun t => (t.storeBytes addr.toNat (wordBytes (t.wordVar v))).advance)
      ⟨fun _ _ => rfl, fun _ => rfl, fun _ => rfl⟩ s _ _
  | load addr n bind =>
    have heval : s.forget.eval n = s.eval n := by rw [hforget, eval_withHidden]
    simp only [runStmt, heval]
    exact hostRam_forget (f := fun t => (t.bindBytes bind (t.ramBytes addr.toNat (s.eval n))).advance)
      ⟨fun _ _ => rfl, fun _ => rfl, fun _ => rfl⟩ s _ _
  | goto target =>
    exact congrArg Host.Outcome.next
      (Unhidden.forget (f := fun t => t.jump target) ⟨fun _ _ => rfl, fun _ => rfl, fun _ => rfl⟩ s)
  | ifGoto c target =>
    have hholds : s.forget.holds c = s.holds c := by rw [hforget, holds_withHidden]
    simp only [runStmt, hholds]
    split
    · exact congrArg Host.Outcome.next
        (Unhidden.forget (f := fun t => t.jump target) ⟨fun _ _ => rfl, fun _ => rfl, fun _ => rfl⟩ s)
    · exact congrArg Host.Outcome.next
        (Unhidden.forget (f := State.advance) ⟨fun _ _ => rfl, fun _ => rfl, fun _ => rfl⟩ s)
  | refuse r => rfl
  | pduDecode buf expected =>
    obtain ⟨f, hf, hs, hs'⟩ := Unhidden.runPduDecode buf expected s
    simp only [runStmt, hs, hs']
    exact congrArg Host.Outcome.next (Unhidden.forget (f := fun t => (f t).advance)
      ⟨fun t h => congrArg State.advance (hf.commutes t h), hf.hidden, hf.radioState⟩ s)
  | returnOk =>
    exact congrArg Host.Outcome.next (Unhidden.forget (f := fun t => ({ t with result := some .ok } : State).advance)
      ⟨fun _ _ => rfl, fun _ => rfl, fun _ => rfl⟩ s)
  | returnRejected =>
    exact congrArg Host.Outcome.next
      (Unhidden.forget (f := fun t => ({ t with result := some .rejected } : State).advance)
        ⟨fun _ _ => rfl, fun _ => rfl, fun _ => rfl⟩ s)
  | returnReceived buf cnt iq =>
    exact congrArg Host.Outcome.next
      (Unhidden.forget (f := fun t => ({ t with result := some (t.receivedResult buf cnt iq) } : State).advance)
        ⟨fun _ _ => rfl, fun _ => rfl, fun _ => rfl⟩ s)

theorem hostStep_forget (s : State) : forgetOut (hostStep s.forget) = forgetOut (hostStep s) := by
  have hstmt : s.forget.script[s.forget.hpc]? = s.script[s.hpc]? := by rw [forget_eq]; rfl
  simp only [hostStep, hstmt]
  split
  · exact runStmt_forget _ s
  · simp

/-! ### RADIO's turn -/

/-- R176, R186: PHYEND in TX, with and without the PHYEND_DISABLE shortcut. -/
theorem signal_phyend_of_tx {s : State} (hr : s.radioState = .tx) :
    s.signal .phyend = { s with
      events := { s.events with phyend := true }
      radioState := if s.phyendDisable then .txdisable else .tx } := by
  cases h : s.phyendDisable with
  | true => simp only [State.signal, h, if_true, State.disableTask, State.setEvent, hr, EventFile.set]
  | false => simp only [State.signal, h, Bool.false_eq_true, if_false, State.setEvent, EventFile.set, ← hr]

/-- R176, R186: PHYEND in RX, with and without the PHYEND_DISABLE shortcut. -/
theorem signal_phyend_of_rx {s : State} (hr : s.radioState = .rx) :
    s.signal .phyend = { s with
      events := { s.events with phyend := true }
      radioState := if s.phyendDisable then .rxdisable else .rx } := by
  cases h : s.phyendDisable with
  | true => simp only [State.signal, h, if_true, State.disableTask, State.setEvent, hr, EventFile.set]
  | false => simp only [State.signal, h, Bool.false_eq_true, if_false, State.setEvent, EventFile.set, ← hr]

/-- R136: the CTE step of a transmission. -/
theorem txCteStep_eq {s : State} (hr : s.radioState = .tx) :
    s.txCteStep = { s with
      airLog := s.airLog ++ [s.airRecord]
      events := { s.events with phyend := true }
      radioState := if s.phyendDisable then .txdisable else .tx
      phase := .done } := by
  rw [State.txCteStep, signal_phyend_of_tx (s := { s with airLog := s.airLog ++ [s.airRecord] }) hr]
  rfl

/-- R242: the CTE step of a reception. -/
theorem rxCteStep_eq {s : State} (hr : s.radioState = .rx) :
    s.rxCteStep = { s.iqCapture with
      events := { s.events with phyend := true }
      radioState := if s.phyendDisable then .rxdisable else .rx
      phase := .done } := by
  rw [State.rxCteStep, signal_phyend_of_rx (s.iqCapture_radioState.trans hr),
    State.phyendDisable_congr s.iqCapture_cfg, s.iqCapture_events]

theorem rampUp_forget {s : State} {idle : RadioState} (hidle : idle = .txidle ∨ idle = .rxidle) :
    (s.forget.rampUp idle).forget = (s.rampUp idle).forget := by
  have hshort : s.forget.readyStart = s.readyStart := by rw [forget_eq]; rfl
  obtain rfl | rfl := hidle
  · cases h : s.readyStart with
    | false =>
      rw [rampUp_of_no_shortcut h, rampUp_of_no_shortcut (hshort.trans h), forget_eq s]; rfl
    | true => rw [rampUp_txidle_of_shortcut h, rampUp_txidle_of_shortcut (hshort.trans h), forget_eq s]; rfl
  · cases h : s.readyStart with
    | false => rw [rampUp_of_no_shortcut h, rampUp_of_no_shortcut (hshort.trans h), forget_eq s]; rfl
    | true => rw [rampUp_rxidle_of_shortcut h, rampUp_rxidle_of_shortcut (hshort.trans h), forget_eq s]; rfl

theorem disableStep_forget (s : State) : s.forget.disableStep.forget = s.disableStep.forget := by
  rw [forget_eq s]; rfl

/-- R134: each step of a transmission loads what the next one reads. -/
theorem txStep_forget {s : State} (hr : s.radioState = .tx) : forgetOut s.forget.txStep = forgetOut s.txStep := by
  have hphase : s.forget.phase = s.phase := by
    rw [forget_eq, hr]
    cases hf : s.phase <;> simp [State.withHidden, State.hidden, Hidden.loaded, Hidden.blank, hf]
  cases hf : s.phase with
  | addr =>
    simp only [State.txStep, hphase, hf]
    cases s; cases hr; cases hf; rfl
  | payload =>
    have hmax : s.forget.maxlen = s.maxlen := by rw [forget_eq]; rfl
    have hlen : s.forget.ramByte (s.forget.packetPtr + 1) = s.ramByte (s.packetPtr + 1) := by rw [forget_eq]; rfl
    simp only [State.txStep, hphase, hf, State.txPayloadStep, hmax, hlen]
    split
    · rfl
    · cases s; cases hr; cases hf; rfl
  | crc =>
    simp only [State.txStep, hphase, hf]
    cases s; cases hr; cases hf; rfl
  | cte =>
    have hr' : s.forget.radioState = .tx := by rw [forget_eq]; exact hr
    have hshort : s.forget.phyendDisable = s.phyendDisable := by rw [forget_eq]; rfl
    simp only [State.txStep, hphase, hf, txCteStep_eq hr, txCteStep_eq hr', hshort]
    cases s.phyendDisable <;> cases s <;> cases hr <;> cases hf <;> rfl
  | done | search => simp [State.txStep, hphase, hf]

/-- R138, R139, R242: each step of a reception loads what the next one reads. -/
theorem rxStep_forget {s : State} (hr : s.radioState = .rx) : forgetOut s.forget.rxStep = forgetOut s.rxStep := by
  cases hf : s.phase with
  | payload =>
    have hphase : s.forget.phase = .payload := by
      cases s; cases hr; cases hf; rfl
    simp only [State.rxStep, hphase, hf]
    cases s; cases hr; cases hf; rfl
  | search =>
    have hphase : s.forget.phase = .search := by
      cases s; cases hr; cases hf; rfl
    simp [State.rxStep, hphase, hf]
  | crc | cte | done | addr =>
    have hkept : s.forget = s := by cases s; cases hr; cases hf; rfl
    rw [hkept]

/-- R191, R290: RADIO's turn answers alike whatever the hidden registers hold that no frame has loaded. -/
theorem radioStep_forget (s : State) : forgetOut (radioStep s.forget) = forgetOut (radioStep s) := by
  have hp' : s.forget.powered = s.powered := by rw [forget_eq]; rfl
  have hr' : s.forget.radioState = s.radioState := by rw [forget_eq]; rfl
  cases hp : s.powered with
  | false => simp [radioStep, hp, hp']
  | true =>
    simp only [radioStep, hp, hp', hr', if_true]
    cases hr : s.radioState with
    | disabled | txidle | rxidle => simp
    | txru => exact congrArg Host.Outcome.next (rampUp_forget (.inl rfl))
    | rxru => exact congrArg Host.Outcome.next (rampUp_forget (.inr rfl))
    | tx => exact txStep_forget hr
    | rx => exact rxStep_forget hr
    | txdisable | rxdisable => exact congrArg Host.Outcome.next (disableStep_forget s)

/-! ### CLOCK's and AIR's turns -/

theorem clockStep_forget (s : State) : (clockStep s.forget).forget = (clockStep s).forget := by
  have hclock : s.forget.hfState = s.hfState := by rw [forget_eq]; rfl
  by_cases h : s.hfState = .starting
  · rw [clockStep_of_starting h, clockStep_of_starting (hclock.trans h)]
    exact Unhidden.forget (f := fun t => { t with hfState := .running, evHfclkStarted := true })
      ⟨fun _ _ => rfl, fun _ => rfl, fun _ => rfl⟩ s
  · rw [clockStep_of_not_starting h, clockStep_of_not_starting (by rwa [hclock]), forget_forget]

/-- R137: what RADIO hears depends on the phase only while it is searching. -/
theorem hears_forget (s : State) (f : AirFrame) : s.forget.hears f = s.hears f := by
  have hr' : s.forget.radioState = s.radioState := by rw [forget_eq]; rfl
  by_cases hr : s.radioState = .rx
  · have hphase : s.forget.phase = s.phase := by
      rw [forget_eq, hr]
      cases hf : s.phase <;> simp [State.withHidden, State.hidden, Hidden.loaded, Hidden.blank, hf]
    have hrest : s.forget.powered = s.powered ∧ s.forget.carrierMhz = s.carrierMhz ∧
        s.forget.accessAddress = s.accessAddress := by rw [forget_eq]; exact ⟨rfl, rfl, rfl⟩
    obtain ⟨hp, hcarrier, haddress⟩ := hrest
    simp only [State.hears, hr', hphase, hp, hcarrier, haddress]
  · simp [State.hears, hr', hr]

theorem airStep_forget (s : State) : (airStep s.forget).forget = (airStep s).forget := by
  have hnext : s.forget.nextAir = s.nextAir := by rw [forget_eq]; rfl
  simp only [airStep, hnext]
  split
  · exact forget_forget s
  · rename_i f _
    rw [hears_forget]
    split
    · rename_i hears
      obtain ⟨hr, hf⟩ : s.radioState = .rx ∧ s.phase = .search := by
        simp only [State.hears, Bool.and_eq_true, decide_eq_true_eq] at hears
        obtain ⟨⟨⟨⟨-, hr⟩, hf⟩, -⟩, -⟩ := hears
        exact ⟨hr, hf⟩
      cases s; cases hr; cases hf; rfl
    · exact Unhidden.forget (f := fun t => { t with airIn := t.airIn.tail })
        ⟨fun _ _ => rfl, fun _ => rfl, fun _ => rfl⟩ s

/-! ### The step -/

theorem agentStep_forget (a : Agent) (s : State) : forgetOut (agentStep a s.forget) = forgetOut (agentStep a s) := by
  cases a with
  | host => exact hostStep_forget s
  | radio => exact radioStep_forget s
  | clock => exact congrArg Host.Outcome.next (clockStep_forget s)
  | air => exact congrArg Host.Outcome.next (airStep_forget s)

/-- R290: a step answers alike on a state and on what is left of it when the unloaded registers are forgotten. -/
theorem step_forget (s : State) : forgetOut (step s.forget) = forgetOut (step s) := by
  have hsame : s.forget.fault = s.fault ∧ s.forget.refused = s.refused ∧ s.forget.nextAgent = s.nextAgent := by
    rw [forget_eq]; exact ⟨rfl, rfl, rfl⟩
  obtain ⟨hfault, hrefused, hagent⟩ := hsame
  have hbegin : s.forget.beginTurn = s.beginTurn.forget := by rw [forget_eq, forget_eq]; rfl
  simp only [step, machineStep, State.ifRunning, hfault, hrefused, hagent, hbegin]
  split
  · rfl
  · rfl
  · exact agentStep_forget _ _

/-- Settles O21: both steps answer as from the one state that both forget to. -/
theorem unloadedRegistersAreNeverRead : Obligations.UnloadedRegistersAreNeverRead := by
  intro s t h
  rw [← step_forget s, ← step_forget t, h]

end Sys2Proof.Machine
end

section
/-!
PROOFS. The session-start check (R180): when TXEN and RXEN start a session, and where they stop, in the rule's order.
-/

namespace Sys2Proof.Machine

/-! ### The steps of the check -/

/-- R180 step 1. -/
theorem sessionStart_of_busy {s : State} (h : s.busy = true) (kind : Session) : sessionStart kind s = .refused .busy :=
  if_pos h

/-- R180 step 2. -/
theorem sessionStart_of_clock {s : State} (hb : s.busy = false) (h : s.hfState ≠ .running) (kind : Session) :
    sessionStart kind s = .refused .hfclkNotRunning := by
  simp only [sessionStart, hb, Bool.false_eq_true, if_false, if_pos h]

section

variable {s : State} {kind : Session}

/-- R180 step 3. -/
theorem sessionStart_of_unwritten (hb : s.busy = false) (hclock : s.hfState = .running)
    (h : s.unwrittenRegs kind ≠ []) : sessionStart kind s = .refused (.unconfigured (s.unwrittenRegs kind)) := by
  simp only [sessionStart, hb, Bool.false_eq_true, if_false, hclock, ne_eq, not_true, if_pos h]

/-- R180 step 4. -/
theorem sessionStart_of_not_admitted (hb : s.busy = false) (hclock : s.hfState = .running)
    (hwritten : s.unwrittenRegs kind = []) (h : s.notAdmittedRegs kind ≠ []) :
    sessionStart kind s = .refused (.notAdmitted (s.notAdmittedRegs kind)) := by
  simp only [sessionStart, hb, Bool.false_eq_true, if_false, hclock, hwritten, ne_eq, not_true, if_pos h]

/-- R180 step 5. -/
theorem sessionStart_of_misaligned (hb : s.busy = false) (hclock : s.hfState = .running)
    (hwritten : s.unwrittenRegs kind = []) (hadmitted : s.notAdmittedRegs kind = [])
    (h : s.pointersAligned kind = false) : sessionStart kind s = .refused .misaligned := by
  simp only [sessionStart, hb, Bool.false_eq_true, if_false, hclock, hwritten, hadmitted, ne_eq, not_true, h,
    Bool.not_false, if_true]

/-- R180 step 6. -/
theorem sessionStart_of_outside (hb : s.busy = false) (hclock : s.hfState = .running)
    (hwritten : s.unwrittenRegs kind = []) (hadmitted : s.notAdmittedRegs kind = [])
    (haligned : s.pointersAligned kind = true) {g : Region}
    (h : (s.sessionRegions kind).find? (fun g => !g.inRam s.memMap) = some g) :
    sessionStart kind s = .fault (.dmaOutsideRam g.start) := by
  simp only [sessionStart, hb, Bool.false_eq_true, if_false, hclock, hwritten, hadmitted, haligned, ne_eq, not_true,
    Bool.not_true, h]

/-- R180 step 7. -/
theorem sessionStart_of_inside (hb : s.busy = false) (hclock : s.hfState = .running)
    (hwritten : s.unwrittenRegs kind = []) (hadmitted : s.notAdmittedRegs kind = [])
    (haligned : s.pointersAligned kind = true)
    (h : (s.sessionRegions kind).find? (fun g => !g.inRam s.memMap) = none) :
    sessionStart kind s = .next (s.beginSession kind) := by
  simp only [sessionStart, hb, Bool.false_eq_true, if_false, hclock, hwritten, hadmitted, haligned, ne_eq, not_true,
    Bool.not_true, h]

end

/-! ### What the steps ask -/

theorem mem_unwrittenRegs (s : State) (kind : Session) (r : CfgReg) :
    r ∈ s.unwrittenRegs kind ↔ r ∈ s.usedRegs kind ∧ s.written.get r = false := by
  simp [State.unwrittenRegs]

theorem mem_notAdmittedRegs (s : State) (kind : Session) (r : CfgReg) :
    r ∈ s.notAdmittedRegs kind ↔ r ∈ s.usedRegs kind ∧ s.admitted r = false := by
  simp [State.notAdmittedRegs]

theorem unwrittenRegs_eq_nil {s : State} {kind : Session} (h : ∀ r ∈ s.usedRegs kind, s.written.get r = true) :
    s.unwrittenRegs kind = [] :=
  List.eq_nil_iff_forall_not_mem.mpr fun r hr => by
    obtain ⟨hused, hmark⟩ := (mem_unwrittenRegs s kind r).mp hr
    simp [h r hused] at hmark

theorem notAdmittedRegs_eq_nil {s : State} {kind : Session} (h : ∀ r ∈ s.usedRegs kind, s.admitted r = true) :
    s.notAdmittedRegs kind = [] :=
  List.eq_nil_iff_forall_not_mem.mpr fun r hr => by
    obtain ⟨hused, hvalue⟩ := (mem_notAdmittedRegs s kind r).mp hr
    simp [h r hused] at hvalue

/-- R180 step 5: which pointers a session aligns. -/
theorem pointersAligned_iff (s : State) (kind : Session) :
    s.pointersAligned kind = true ↔
      s.packetPtr % 4 = 0 ∧ (kind = .rx → s.cteEnabled = true → s.iqPtr % 4 = 0) := by
  simp only [State.pointersAligned, Bool.and_eq_true, Bool.or_eq_true, Bool.not_eq_true', decide_eq_true_eq]
  by_cases hk : kind = .rx <;> cases s.cteEnabled <;> simp [hk]

/-- R76: the regions of a transmit session. -/
theorem sessionRegions_tx (s : State) : s.sessionRegions .tx = [s.packetRegion] := if_neg nofun

/-- R76: the regions of a receive session. -/
theorem sessionRegions_rx (s : State) :
    s.sessionRegions .rx = s.packetRegion :: if s.cteEnabled then [s.iqRegion] else [] := by
  cases h : s.cteEnabled <;> simp [State.sessionRegions, h]

/-- R76: the packet region is the first of every session. -/
theorem sessionRegions_head (s : State) (kind : Session) : ∃ rest, s.sessionRegions kind = s.packetRegion :: rest := by
  unfold State.sessionRegions
  split <;> exact ⟨_, rfl⟩

/-! ### The tasks -/

theorem taskAccess_of_bit {s : State} (hp : s.powered = true) {d : Word} (hd : d.getLsbD 0 = true)
    (act : State → Out) : taskAccess act (.wr d) s = act s := by
  simp only [taskAccess, ifPowered_of_powered hp, hd, if_true]

theorem taskAccess_of_no_bit {s : State} (hp : s.powered = true) {d : Word} (hd : d.getLsbD 0 = false)
    (act : State → Out) : taskAccess act (.wr d) s = .next s := by
  simp only [taskAccess, ifPowered_of_powered hp, hd, Bool.false_eq_true, if_false]

/-- R180 step 7: what a session that passes every check starts with. -/
theorem sessionStart_passes {s : State} {kind : Session} (hsess : s.session = .none) (hr : s.radioState = .disabled)
    (hclock : s.hfState = .running) (hregs : ∀ r ∈ s.usedRegs kind, s.written.get r = true ∧ s.admitted r = true)
    (haligned : s.pointersAligned kind = true) (hin : ∀ g ∈ s.sessionRegions kind, g.inRam s.memMap = true) :
    sessionStart kind s = .next (s.beginSession kind) := by
  have hnone : (s.sessionRegions kind).find? (fun g => !g.inRam s.memMap) = none :=
    List.find?_eq_none.mpr fun g hg => by simp [hin g hg]
  exact sessionStart_of_inside ((busy_eq_false s).mpr ⟨hsess, hr⟩) hclock
    (unwrittenRegs_eq_nil fun r hu => (hregs r hu).1) (notAdmittedRegs_eq_nil fun r hu => (hregs r hu).2) haligned
    hnone

/-- Settles O23: the check of R180 for a transmit session, whose one region is the packet's. -/
theorem txenStartsATransmitSession : Obligations.TxenStartsATransmitSession := by
  refine fun s d hp => ⟨fun hd => taskAccess_of_no_bit hp hd _,
    fun hd hsess hr hclock hregs halign hlow hhigh => (taskAccess_of_bit hp hd _).trans ?_⟩
  have haligned : s.pointersAligned .tx = true := (pointersAligned_iff s .tx).mpr ⟨halign, nofun⟩
  have hin : ∀ g ∈ s.sessionRegions .tx, g.inRam s.memMap = true := by
    simpa [sessionRegions_tx, Region.inRam_iff] using ⟨hlow, hhigh⟩
  rw [sessionStart_passes hsess hr hclock hregs haligned hin]
  rfl

/-- Settles O24: the check of R180 for a receive session, whose second region is the IQ buffer's when it has a CTE. -/
theorem rxenStartsAReceiveSession : Obligations.RxenStartsAReceiveSession := by
  refine fun s d hp => ⟨fun hd => taskAccess_of_no_bit hp hd _,
    fun hd hsess hr hclock hregs halign hlow hhigh hiq => (taskAccess_of_bit hp hd _).trans ?_⟩
  have haligned : s.pointersAligned .rx = true :=
    (pointersAligned_iff s .rx).mpr ⟨halign, fun _ hc => (hiq hc).1⟩
  have hpacket : s.packetRegion.inRam s.memMap = true := (Region.inRam_iff _ _).mpr ⟨hlow, hhigh⟩
  have hin : ∀ g ∈ s.sessionRegions .rx, g.inRam s.memMap = true := by
    rw [sessionRegions_rx]
    cases hc : s.cteEnabled with
    | true =>
      have hiqRegion : s.iqRegion.inRam s.memMap = true := (Region.inRam_iff _ _).mpr (hiq hc).2
      simp [hpacket, hiqRegion]
    | false => simp [hpacket]
  rw [sessionStart_passes hsess hr hclock hregs haligned hin]
  simp only [State.beginSession, sessionRegions_rx, State.packetRegion, State.iqRegion, if_neg (nofun : Session.rx ≠ .tx)]

/-- R182, R183: TXEN and RXEN with bit 0 set are the check for their session. -/
theorem exec_sessionStart {s : State} {kind : Session} {i : Instr} {d : Word} (hp : s.powered = true)
    (hd : d.getLsbD 0 = true) (hi : kind = .tx ∧ i = .tasksTxen (.wr d) ∨ kind = .rx ∧ i = .tasksRxen (.wr d)) :
    exec i s = sessionStart kind s := by
  obtain ⟨rfl, rfl⟩ | ⟨rfl, rfl⟩ := hi
  · exact taskAccess_of_bit hp hd _
  · exact taskAccess_of_bit hp hd _

/-- Settles O25: one case for each step of the check. -/
theorem sessionStartStopsInOrder : Obligations.SessionStartStopsInOrder := by
  intro s kind i d hp hd hi
  rw [exec_sessionStart hp hd hi]
  refine ⟨fun hbusy => sessionStart_of_busy ((busy_eq_true s).mpr hbusy.symm) kind, fun hr hsess => ?_⟩
  have hb : s.busy = false := (busy_eq_false s).mpr ⟨hsess, hr⟩
  refine ⟨fun hclock => sessionStart_of_clock hb hclock kind, fun hclock => ⟨?unwritten, fun hwritten =>
    ⟨?notAdmitted, fun hadmitted => ⟨?misaligned, fun hpacket hiq => ⟨?packet, ?iq⟩⟩⟩⟩⟩
  case unwritten =>
    rintro ⟨r, hr⟩
    exact ⟨_, sessionStart_of_unwritten hb hclock (List.ne_nil_of_mem ((mem_unwrittenRegs s kind r).mpr hr)),
      mem_unwrittenRegs s kind⟩
  all_goals have hmarks := unwrittenRegs_eq_nil hwritten
  case notAdmitted =>
    rintro ⟨r, hr⟩
    exact ⟨_, sessionStart_of_not_admitted hb hclock hmarks
      (List.ne_nil_of_mem ((mem_notAdmittedRegs s kind r).mpr hr)), mem_notAdmittedRegs s kind⟩
  all_goals have hvalues := notAdmittedRegs_eq_nil hadmitted
  case misaligned =>
    intro hbad
    refine sessionStart_of_misaligned hb hclock hmarks hvalues (Bool.eq_false_iff.mpr fun haligned => ?_)
    obtain ⟨hpacket, hiq⟩ := (pointersAligned_iff s kind).mp haligned
    obtain hbad | ⟨hk, hc, hbad⟩ := hbad
    · exact hbad hpacket
    · exact hbad (hiq hk hc)
  all_goals have haligned := (pointersAligned_iff s kind).mpr ⟨hpacket, hiq⟩
  case packet =>
    intro hout
    obtain ⟨rest, hregions⟩ := sessionRegions_head s kind
    exact sessionStart_of_outside hb hclock hmarks hvalues haligned (g := s.packetRegion) (by simp [hregions, hout])
  case iq =>
    intro hin hk hc hout
    exact sessionStart_of_outside hb hclock hmarks hvalues haligned (g := s.iqRegion)
      (by simp [hk, sessionRegions_rx, hc, hin, hout])

end Sys2Proof.Machine
end

section
/-!
PROOFS. The registers: reads (R78, R179, R216 to R219), configuration, POWER and pattern writes (R173, R179, R236, R237),
task writes (R184 to R186), events (R86), and the refusal of an unpowered radio (R175).
-/

namespace Sys2Proof.Machine

/-! ### Reads -/

/-- R78: an access that changes the returned word only, and returns the same when it is made again. -/
def ReadsOnly (e : State → Out) : Prop :=
  ∀ s t, e s = .next t → t = { s with busData := t.busData } ∧ e t = .next t

/-- A read that returns a value which does not depend on the word last returned. -/
theorem ReadsOnly.next {value : State → Word} (h : ∀ s w, value (s.readBus w) = value s) :
    ReadsOnly fun s => .next (s.readBus (value s)) := by
  rintro s t ht
  cases ht
  exact ⟨rfl, congrArg (fun w => Host.Outcome.next (s.readBus w)) (h s _)⟩

/-- R175: the power guard changes nothing about a read. -/
theorem ReadsOnly.ifPowered {e : State → Out} (he : ReadsOnly e) : ReadsOnly fun s => s.ifPowered (e s) := by
  intro s t h
  obtain ⟨hp, h⟩ := ifPowered_next h
  obtain ⟨ht, hagain⟩ := he s t h
  have hpt : t.powered = true := by rw [ht]; exact hp
  exact ⟨ht, (ifPowered_of_powered hpt _).trans hagain⟩

theorem ReadsOnly.refused {e : State → Out} (h : ∀ s, ∃ r, e s = .refused r) : ReadsOnly e := by
  intro s t ht
  obtain ⟨r, hr⟩ := h s
  exact nomatch hr.symm.trans ht

theorem ReadsOnly.config (r : CfgReg) : ReadsOnly (configAccess r .rd) :=
  .ifPowered (.next (value := fun s => s.reg r) fun _ _ => rfl)

theorem ReadsOnly.event (e : Event) : ReadsOnly (eventAccess e .rd) :=
  .ifPowered (.next (value := fun s => zextBool (s.events.get e)) fun _ _ => rfl)

theorem ReadsOnly.status {value : State → Word} (h : ∀ s w, value (s.readBus w) = value s) :
    ReadsOnly (statusAccess value .rd) := .ifPowered (.next h)

/-- R78: every register read changes the returned word only. -/
theorem exec_readsOnly (i : Instr) (h : i.op = some .rd) : ReadsOnly (exec i) := by
  cases i <;> cases h
  case clockTasksHfclkstart | tasksTxen | tasksRxen | tasksStart | tasksStop | tasksDisable | switchpattern |
      clearpattern => exact .refused fun _ => ⟨_, rfl⟩
  case clockEventsHfclkstarted => exact .next (value := fun s => zextBool s.evHfclkStarted) fun _ _ => rfl
  case power => exact .next (value := fun s => zextBool s.powered) fun _ _ => rfl
  case intenset | intenclr => exact .refused fun s => (ifPowered_refused s .unsupported).imp fun _ hx => hx.1
  case crcstatus => exact .status (value := fun s => zextBool s.crcStatus) fun _ _ => rfl
  case rxmatch => exact .status (value := fun s => s.rxMatch.zeroExtend 32) fun _ _ => rfl
  case rxcrc => exact .status (value := fun s => s.rxCrc.zeroExtend 32) fun _ _ => rfl
  case state => exact .status (value := fun s => stateCode s.radioState) fun _ _ => rfl
  case dfepacketAmount => exact .status (value := fun s => s.amount.zeroExtend 32) fun _ _ => rfl
  case eventsReady | eventsAddress | eventsPayload | eventsEnd | eventsDisabled |
      eventsCrcok | eventsCrcerror | eventsPhyend =>
    exact .event _
  all_goals exact .config _

/-- Settles O15: what holds of each read. -/
theorem registerReadsHaveNoSideEffect : Obligations.RegisterReadsHaveNoSideEffect :=
  fun i s t hop h => exec_readsOnly i hop s t h

/-- R216 to R219, R246: a status register of a powered radio reads its value. -/
theorem statusAccess_read {s : State} (hp : s.powered = true) (value : State → Word) :
    statusAccess value .rd s = .next (s.readBus (value s)) := ifPowered_of_powered hp _

/-- A field read into a word is the word of the field's number. -/
theorem zeroExtend_eq_ofNat {w : Nat} (v : BitVec w) : v.zeroExtend 32 = BitVec.ofNat 32 v.toNat :=
  (BitVec.ofNat_toNat 32 v).symm

/-- Settles O36: four fields, and the code of the radio state. -/
theorem statusReadsReturnTheirFields : Obligations.StatusReadsReturnTheirFields := by
  intro s hp
  refine ⟨statusAccess_read hp fun t => zextBool t.crcStatus, ?_, ?_, ?_, stateCode s.radioState,
    statusAccess_read hp fun t => stateCode t.radioState, ?_⟩
  · rw [← zeroExtend_eq_ofNat]; exact statusAccess_read hp fun t => t.rxMatch.zeroExtend 32
  · rw [← zeroExtend_eq_ofNat]; exact statusAccess_read hp fun t => t.rxCrc.zeroExtend 32
  · rw [← zeroExtend_eq_ofNat]; exact statusAccess_read hp fun t => t.amount.zeroExtend 32
  · cases s.radioState <;> decide

/-! ### Configuration registers -/

/-- R179, R188: a configuration register is read like any other. -/
theorem exec_config_read {s : State} (hp : s.powered = true) (r : CfgReg) :
    exec (r.instr .rd) s = .next (s.readBus (s.reg r)) := by
  by_cases hr : r = .shorts
  · subst hr; exact configAccess_read hp .shorts
  · rw [exec_config_of_ne_shorts hr, configAccess_read hp]

/-- R11: a read shows no bit outside the fields and the hardwired bits. -/
theorem keepFields_outside (r : CfgReg) (w : Word) :
    keepFields r w &&& ~~~(fieldMask r ||| hardwiredOnes r) = 0#32 := by
  unfold keepFields
  ext k hk
  simp only [BitVec.getElem_and, BitVec.getElem_or, BitVec.getElem_not, BitVec.getElem_zero]
  cases (fieldMask r)[k] <;> cases (hardwiredOnes r)[k] <;> simp

/-- Settles O32: a read returns what `keepFields` shows of the stored word. -/
theorem configurationReadReturnsItsFields : Obligations.ConfigurationReadReturnsItsFields := by
  intro s r hp
  refine ⟨s.reg r, exec_config_read hp r, rfl, keepFields_outside r _, fun hr => ?_⟩
  subst hr
  exact s.reg_datawhiteiv_bit6

/-- R179, R188: a configuration write while the radio is idle, for SHORTS with a word of its two bits. -/
theorem exec_config_write {s : State} (hp : s.powered = true) (hb : s.busy = false) {r : CfgReg} {d : Word}
    (hd : r = .shorts → d &&& ~~~fieldMask .shorts = 0#32) :
    exec (r.instr (.wr d)) s = .next (s.writeReg r d) := by
  by_cases hr : r = .shorts
  · subst hr
    exact (exec_shorts_of_supported (hd rfl) s).trans (configAccess_write_of_idle hp hb .shorts d)
  · rw [exec_config_of_ne_shorts hr, configAccess_write_of_idle hp hb]

/-- R151: CRCPOLY stores the whole word. -/
theorem storeFields_crcpoly (d : Word) : storeFields .crcpoly d = d := by
  have hall : d &&& 0xFFFFFFFF#32 = d := BitVec.and_allOnes
  simp [storeFields, storeMask, hardwiredOnes, hall]

/-- Settles O31: the write is `writeReg`, which touches one register and its mark. -/
theorem configurationWriteStoresItsFields : Obligations.ConfigurationWriteStoresItsFields := by
  intro s r d hp hsess hr hd
  refine ⟨s.writeReg r d, exec_config_write hp ((busy_eq_false s).mpr ⟨hsess, hr⟩) hd, ?value, ?mark,
    fun hcrc => ?crcpoly, fun q hq => ?others, rfl⟩
  case value => rw [State.reg_writeReg, if_pos rfl, keepFields]
  case mark => rw [State.writeReg_written, RegFile.get_set, if_pos rfl]
  case crcpoly =>
    subst hcrc
    exact storeFields_crcpoly d
  case others => simp only [State.reg_writeReg, State.writeReg_cfg, State.writeReg_written, RegFile.get_set, if_neg hq,
      and_self]

/-! ### POWER and the antenna pattern -/

theorem exec_power_of_bit {s : State} (hb : s.busy = false) {d : Word} (hd : d.getLsbD 0 = true) :
    exec (.power (.wr d)) s = .next { s with powered := true } := by
  simp only [exec, execPower, hb, hd, Bool.false_eq_true, if_false, if_true]

theorem exec_power_of_no_bit {s : State} (hb : s.busy = false) {d : Word} (hd : d.getLsbD 0 = false) :
    exec (.power (.wr d)) s = .next s.powerDown := by
  simp only [exec, execPower, hb, hd, Bool.false_eq_true, if_false]

/-- R60: every configuration register reads 0 after a power cycle, but for the hardwired bit. -/
theorem keepFields_atReset (r : CfgReg) :
    keepFields r (RegFile.atReset.get r) = if r = .datawhiteiv then 0x40#32 else 0#32 := by
  cases r <;> decide

/-- Settles O37: the power-down's state, powered again. -/
theorem powerCycleResetsTheRadio : Obligations.PowerCycleResetsTheRadio := by
  refine ⟨fun s => rfl, fun s d e hsess hr hd he => ?_⟩
  have hb : s.busy = false := (busy_eq_false s).mpr ⟨hsess, hr⟩
  have hb' : s.powerDown.busy = false := (busy_eq_false _).mpr ⟨hsess, rfl⟩
  refine ⟨exec_power_of_bit hb he, s.powerDown, { s.powerDown with powered := true }, exec_power_of_no_bit hb hd, rfl,
    exec_power_of_bit hb' he, rfl, keepFields_atReset, RegFile.get_all false, EventFile.get_clear, ?_⟩
  rw [State.powerDown, hr]

theorem exec_switchpattern_of_idle {s : State} (hp : s.powered = true) (hb : s.busy = false) (d : Word) :
    exec (.switchpattern (.wr d)) s = .next (s.appendPattern d) := by
  simp only [exec, execSwitchpattern, ifPowered_of_powered hp, hb, Bool.false_eq_true, if_false]

theorem exec_clearpattern_of_bit {s : State} (hp : s.powered = true) (hb : s.busy = false) {d : Word}
    (hd : d.getLsbD 0 = true) : exec (.clearpattern (.wr d)) s = .next s.clearPattern := by
  simp only [exec, execClearpattern, ifPowered_of_powered hp, hb, hd, Bool.false_eq_true, if_false, if_true]

theorem exec_clearpattern_of_no_bit {s : State} (hp : s.powered = true) (hb : s.busy = false) {d : Word}
    (hd : d.getLsbD 0 = false) : exec (.clearpattern (.wr d)) s = .next s := by
  simp only [exec, execClearpattern, ifPowered_of_powered hp, hb, hd, Bool.false_eq_true, if_false]

/-- Settles O38: the two pattern registers, idle and busy. -/
theorem patternWritesBuildTheList : Obligations.PatternWritesBuildTheList := by
  refine fun s d hp => ⟨rfl, rfl, fun hbusy => ?busy, fun hsess hr => ?idle⟩
  case busy =>
    have hb : s.busy = true := (busy_eq_true s).mpr hbusy
    exact ⟨exec_switchpattern_of_busy hp hb d, exec_clearpattern_of_busy hp hb d⟩
  case idle =>
    have hb : s.busy = false := (busy_eq_false s).mpr ⟨hsess, hr⟩
    refine ⟨exec_switchpattern_of_idle hp hb d, fun hd => exec_clearpattern_of_bit hp hb hd,
      fun hd => exec_clearpattern_of_no_bit hp hb hd, s.powerDown, exec_power_of_no_bit hb rfl, rfl⟩

/-! ### Tasks -/

theorem startTask_of_txidle {s : State} (h : s.radioState = .txidle) :
    s.startTask = { s with radioState := .tx, phase := .addr } := by
  simp only [State.startTask, h]

theorem startTask_of_rxidle {s : State} (h : s.radioState = .rxidle) :
    s.startTask = { s with radioState := .rx, phase := .search } := by
  simp only [State.startTask, h]

/-- Settles O26: START with bit 0 set, by the state of the radio. -/
theorem hostStartLeavesIdle : Obligations.HostStartLeavesIdle := by
  refine fun s d hp => ⟨fun hd => taskAccess_of_no_bit hp hd _, fun hd => ⟨fun h => ?_, fun h => ?_, fun htx hrx => ?_⟩⟩
  · rw [← startTask_of_txidle h]
    exact (taskAccess_of_bit hp hd _).trans (if_pos (.inl h))
  · rw [← startTask_of_rxidle h]
    exact (taskAccess_of_bit hp hd _).trans (if_pos (.inr h))
  · exact (taskAccess_of_bit hp hd _).trans (if_neg (not_or.mpr ⟨htx, hrx⟩))

/-- R185, R186: the task behind STOP and a HOST DISABLE. -/
def unsupportedTask (_ : State) : Out := .refused .unsupported

/-- Settles O27: both tasks refuse where bit 0 acts. -/
theorem stopAndDisableAreUnsupported : Obligations.StopAndDisableAreUnsupported := fun _ _ hp =>
  ⟨fun hd => ⟨taskAccess_of_no_bit hp hd unsupportedTask, taskAccess_of_no_bit hp hd unsupportedTask⟩,
    fun hd => ⟨taskAccess_of_bit hp hd unsupportedTask, taskAccess_of_bit hp hd unsupportedTask⟩⟩

/-! ### Events -/

/-- Settles O22: the flag ends as the later of the two leaves it. -/
theorem clearAndSignalInEitherOrder : Obligations.ClearAndSignalInEitherOrder := by
  intro s e hp
  have hp' : (s.signal e).powered = true := (s.signal_powered e).trans hp
  refine ⟨⟨s.setEvent e false, ?_, ?_⟩, ⟨(s.signal e).setEvent e false, ?_, ?_⟩⟩
  · rw [exec_event, eventAccess_clear hp]
  · rw [State.signal_events, EventFile.get_set, if_pos rfl]
  · rw [exec_event, eventAccess_clear hp']
  · rw [State.setEvent_events, EventFile.get_set, if_pos rfl]

/-! ### An unpowered radio -/

theorem unpowered_config {s : State} (hp : s.powered = false) (r : CfgReg) (op : BusOp) :
    configAccess r op s = .refused .radioUnpowered := ifPowered_of_unpowered hp _

theorem unpowered_shorts {s : State} (hp : s.powered = false) (op : BusOp) :
    exec (.shorts op) s = .refused .radioUnpowered := by
  cases op with
  | rd => exact unpowered_config hp .shorts .rd
  | wr d =>
    by_cases hd : d &&& ~~~fieldMask .shorts = 0#32
    · rw [exec_shorts_of_supported hd, unpowered_config hp]
    · exact (if_neg hd).trans (ifPowered_of_unpowered hp _)

/-- R175: an access in an admitted direction to a register behind the power guard. -/
theorem unpowered_exec {s : State} (hp : s.powered = false) {i : Instr} (hgated : isGatedByPower i = true)
    (hwf : i.wf = true) : exec i s = .refused .radioUnpowered := by
  cases i
  case clockTasksHfclkstart | clockEventsHfclkstarted | power | advNonconnInd => cases hgated
  case shorts op => exact unpowered_shorts hp op
  case intenset | intenclr => exact ifPowered_of_unpowered hp _
  case tasksTxen op | tasksRxen op | tasksStart op | tasksStop op | tasksDisable op | switchpattern op |
      clearpattern op =>
    cases op with
    | rd => cases hwf
    | wr d => exact ifPowered_of_unpowered hp _
  case crcstatus op | rxmatch op | rxcrc op | state op | dfepacketAmount op =>
    cases op with
    | rd => exact ifPowered_of_unpowered hp _
    | wr d => cases hwf
  all_goals exact ifPowered_of_unpowered hp _

/-- R91, R92: a register access is well formed exactly in the directions of its access code. -/
theorem Instr.wf_eq {i : Instr} {c : AccessCode} {op : BusOp} (hcode : i.access = some c) (hop : i.op = some op) :
    i.wf = c.allows op := by
  cases i with
  | advNonconnInd => cases hcode
  | _ => simp only [Instr.wf, hcode, hop]

/-- R91: every instruction behind the power guard is a register access. -/
theorem access_of_gated {i : Instr} (hgated : isGatedByPower i = true) :
    ∃ c op, i.access = some c ∧ i.op = some op := by
  cases i with
  | advNonconnInd => cases hgated
  | _ => exact ⟨_, _, rfl, rfl⟩

/-- R171: what the start task does to CLOCK looks at CLOCK only. -/
theorem startHfclk_congr {s t : State} (hstate : t.hfState = s.hfState) (hevent : t.evHfclkStarted = s.evHfclkStarted) :
    s.startHfclk.hfState = t.startHfclk.hfState ∧ s.startHfclk.evHfclkStarted = t.startHfclk.evHfclkStarted := by
  cases hs : s.hfState with
  | off => rw [startHfclk_of_off hs, startHfclk_of_off (hstate.trans hs)]; exact ⟨rfl, hevent.symm⟩
  | starting =>
    rw [startHfclk_of_starting hs, startHfclk_of_starting (hstate.trans hs)]
    exact ⟨hstate.symm, hevent.symm⟩
  | running => rw [startHfclk_of_running hs, startHfclk_of_running (hstate.trans hs)]; exact ⟨hstate.symm, rfl⟩

/-- R175: what an access outside the power guard does to CLOCK does not depend on RADIO's power. -/
theorem exec_of_not_gated {i : Instr} (hgated : isGatedByPower i = false) {s t : State}
    (h : exec i { s with powered := true } = .next t) :
    ∃ u : State, exec i s = .next u ∧ u.hfState = t.hfState ∧ u.evHfclkStarted = t.evHfclkStarted := by
  cases i <;> try cases hgated
  case clockTasksHfclkstart op =>
    cases op with
    | rd => cases h
    | wr d =>
      cases hd : d.getLsbD 0 with
      | true =>
        rw [exec_clockTasksHfclkstart_of_bit hd] at h
        cases h
        exact ⟨_, exec_clockTasksHfclkstart_of_bit hd s, startHfclk_congr rfl rfl⟩
      | false =>
        rw [exec_clockTasksHfclkstart_of_no_bit hd] at h
        cases h
        exact ⟨_, exec_clockTasksHfclkstart_of_no_bit hd s, rfl, rfl⟩
  case clockEventsHfclkstarted op =>
    cases op with
    | rd => cases h; exact ⟨_, exec_clockEventsHfclkstarted_read s, rfl, rfl⟩
    | wr d =>
      by_cases hd : d = 0#32
      · subst hd
        cases h
        exact ⟨_, exec_clockEventsHfclkstarted_clear s, rfl, rfl⟩
      · rw [exec_clockEventsHfclkstarted_of_ne_zero hd] at h
        cases h
  case power op =>
    cases op with
    | rd => cases h; exact ⟨_, rfl, rfl, rfl⟩
    | wr d =>
      have hsame : ({ s with powered := true } : State).busy = s.busy := rfl
      cases hb : s.busy with
      | true => rw [exec_power_of_busy (hsame.trans hb)] at h; cases h
      | false =>
        cases hd : d.getLsbD 0 with
        | true =>
          rw [exec_power_of_bit (hsame.trans hb) hd] at h
          cases h
          exact ⟨_, exec_power_of_bit hb hd, rfl, rfl⟩
        | false =>
          rw [exec_power_of_no_bit (hsame.trans hb) hd] at h
          cases h
          exact ⟨_, exec_power_of_no_bit hb hd, rfl, rfl⟩
  case advNonconnInd => cases h; exact ⟨_, rfl, rfl, rfl⟩

/-- Settles O19: the guard comes after the direction and before the rest, and CLOCK has none. -/
theorem anUnpoweredRadioIsRefused : Obligations.AnUnpoweredRadioIsRefused := by
  refine fun s hp => ⟨fun i hgated => ⟨unpowered_exec hp hgated, fun hwf => ?direction⟩, ?radio, ?clock,
    fun i hgated t h => exec_of_not_gated hgated h⟩
  case direction =>
    obtain ⟨c, op, hcode, hop⟩ := access_of_gated hgated
    exact exec_of_not_allowed hcode hop ((Instr.wf_eq hcode hop).symm.trans hwf) s
  case radio => simp [radioStep, hp]
  case clock =>
    by_cases hs : s.hfState = .starting
    · rw [clockStep_of_starting hs, clockStep_of_starting (s := { s with powered := true }) hs, ← hp]
    · rw [clockStep_of_not_starting hs, clockStep_of_not_starting (s := { s with powered := true }) hs, ← hp]

end Sys2Proof.Machine
end

section
/-!
PROOFS. The step of the whole machine (R170): what HOST's turn runs (R105, R140), how a stop ends the run (R270, R271), and
HOST's loads and stores, complete or raced (R71, R84).
-/

namespace Sys2Proof.Machine

/-! ### HOST's turn -/

/-- R105: on HOST's turn the step is the statement at the index. -/
theorem step_of_stmt {s : State} (hfault : s.fault = none) (hrefused : s.refused = none) (hagent : s.nextAgent = .host)
    {st : Stmt} (hst : s.script[s.hpc]? = some st) : step s = runStmt st s.beginTurn := by
  have hst' : s.beginTurn.script[s.beginTurn.hpc]? = some st := hst
  rw [step_running hfault hrefused, hagent, agentStep, hostStep, hst']

theorem hostStep_of_stmt {s : State} {st : Stmt} (hst : s.script[s.hpc]? = some st) : hostStep s = runStmt st s := by
  rw [hostStep, hst]

/-- R170: a bus access that decodes is the instruction's meaning. -/
theorem busAccess_of_decode {s : State} {a : BusAccess} {i : Instr} (h : decodeAccess s.memMap a = .ok i) :
    busAccess a s = exec i s := by
  rw [busAccess, h]

/-- Settles O6: the two statements that run an instruction. -/
theorem stepRunsTheDecodedInstruction : Obligations.StepRunsTheDecodedInstruction := by
  refine fun s hfault hrefused hagent => ⟨fun a i bind hst hdec _ => ?bus, fun buf expected i hst hdec => ?pdu⟩
  case bus =>
    have hdec' : decodeAccess s.beginTurn.memMap a = .ok i := hdec
    rw [step_of_stmt hfault hrefused hagent hst, runStmt, busAccess_of_decode hdec']
  case pdu =>
    have hdec' : decodePdu (s.beginTurn.pduImageOf buf) = .ok i := hdec
    rw [step_of_stmt hfault hrefused hagent hst, runStmt, State.runPduDecode, hdec']

/-- Settles O8: the end of a poll's read is `finishPoll`. -/
theorem pollAdvancesOnlyOnTheValue : Obligations.PollAdvancesOnlyOnTheValue := by
  intro s t a v hfault hrefused hagent hst hread
  rw [step_of_stmt hfault hrefused hagent hst, runStmt, hread]
  rfl

/-! ### The end of a run -/

theorem step_of_fault {s : State} {f : Fault} (h : s.fault = some f) : step s = .fault f := by
  rw [step, machineStep, State.ifRunning, h]

theorem step_of_refused {s : State} {r : Refusal} (hf : s.fault = none) (h : s.refused = some r) :
    step s = .refused r := by
  rw [step, machineStep, State.ifRunning, hf, h]

/-- Settles O9: `settle` records the reason, and a recorded reason is what every later step answers. -/
theorem aStoppedRunStaysStopped : Obligations.AStoppedRunStaysStopped := by
  refine fun s hfault _ => ⟨fun f h => ?_, fun r h => ?_⟩
  · rw [h]
    exact ⟨rfl, step_of_fault rfl⟩
  · rw [h]
    exact ⟨rfl, step_of_refused hfault rfl⟩

/-! ### HOST's RAM accesses -/

/-- R71: a range inside RAM has no byte outside it. -/
theorem firstOutsideRam_of_inside {m : MemMap} {a n : Nat} (hlow : m.ramBase ≤ a)
    (hhigh : a + n ≤ m.ramBase + m.ramSize) : firstOutsideRam m a n = none := by
  unfold firstOutsideRam
  split_ifs
  · rfl
  · omega
  · omega
  · rfl

/-- R84: the first byte of the range that a session in flight owns. -/
theorem firstRace_of_first {s : State} {a n k : Nat} (hsess : s.session ≠ .none) (hk : k < n)
    (hdma : s.inDma (a + k) = true) (hfirst : ∀ j < k, s.inDma (a + j) = false) : s.firstRace a n = some (a + k) := by
  rw [State.firstRace, if_neg hsess, List.find?_map, Option.map_eq_some_iff]
  refine ⟨k, ?_, rfl⟩
  rw [List.find?_range_eq_some]
  exact ⟨hdma, List.mem_range.mpr hk, fun j hj => by simp [hfirst j hj]⟩

/-- R84: a range clear of the session's bytes is not raced. -/
theorem firstRace_of_clear {s : State} {a n : Nat} (h : s.session = .none ∨ ∀ k < n, s.inDma (a + k) = false) :
    s.firstRace a n = none := by
  by_cases hsess : s.session = .none
  · exact firstRace_of_no_session hsess a n
  · have hclear := h.resolve_left hsess
    rw [State.firstRace, if_neg hsess, List.find?_eq_none]
    intro x hx
    obtain ⟨k, hk, rfl⟩ := List.mem_map.mp hx
    simp [hclear k (List.mem_range.mp hk)]

theorem hostRam_of_race {s t : State} {a n b : Nat} (hin : firstOutsideRam s.memMap a n = none)
    (hrace : s.firstRace a n = some b) : hostRam s a n t = .fault (.dmaBufferRace b) := by
  rw [hostRam, hin, hrace]

theorem hostRam_of_clear {s t : State} {a n : Nat} (hin : firstOutsideRam s.memMap a n = none)
    (hclear : s.firstRace a n = none) : hostRam s a n t = .next t := by
  rw [hostRam, hin, hclear]

/-- Settles O59: each of the three statements is one access of the range. -/
theorem bufferRacesFault : Obligations.BufferRacesFault := by
  intro s addr k n hsess hlow hhigh hk hdma hfirst
  have hin := firstOutsideRam_of_inside hlow hhigh
  have hrace := firstRace_of_first hsess hk hdma hfirst
  refine ⟨fun bytes hlen hst => ?_, fun v hn hst => ?_, fun e v heval hst => ?_⟩
  · subst hlen
    exact (hostStep_of_stmt hst).trans (hostRam_of_race hin hrace)
  · subst hn
    exact (hostStep_of_stmt hst).trans (hostRam_of_race hin hrace)
  · subst heval
    exact (hostStep_of_stmt hst).trans (hostRam_of_race hin hrace)

/-- R73, R75: byte k of a word, least significant first. -/
theorem getElem_wordBytes (w : Word) {k : Nat} (hk : k < (wordBytes w).length) :
    (wordBytes w)[k] = BitVec.ofNat 8 (w.toNat / 2 ^ (8 * k)) := by
  have hbyte : ∀ lo, w.extractLsb' lo 8 = BitVec.ofNat 8 (w.toNat / 2 ^ lo) := fun lo => by
    rw [BitVec.extractLsb', Nat.shiftRight_eq_div_pow]
  have hk4 : k < 4 := hk
  interval_cases k <;> exact hbyte _

/-- R104: a byte of the variable that a load bound. -/
theorem byteVar_bindBytes (s : State) (v : Nat) {bytes : List Byte} {k : Nat} (hk : k < bytes.length) :
    (s.bindBytes v bytes).byteVar v k = bytes[k] := by
  simp [State.byteVar, hk]

theorem getElem_ramBytes (s : State) (a n : Nat) {k : Nat} (hk : k < (s.ramBytes a n).length) :
    (s.ramBytes a n)[k] = s.ramByte (a + k) := by
  simp [State.ramBytes]

/-- Settles O60: what a store leaves of RAM, byte by byte, and what a load binds. -/
theorem hostStoresAndLoadsComplete : Obligations.HostStoresAndLoadsComplete := by
  intro s addr n hlow hhigh hclear
  have hin := firstOutsideRam_of_inside hlow hhigh
  have hrace := firstRace_of_clear hclear
  refine ⟨fun bytes hlen hst => ?store, fun v hn hst => ?storeWord, fun e v heval hst => ?load⟩
  case store =>
    subst hlen
    refine ⟨_, (hostStep_of_stmt hst).trans (hostRam_of_clear hin hrace), rfl, fun k b hb => ?_,
      fun a ha => ramByte_of_outside (bytes := bytes) rfl ha⟩
    obtain ⟨hk, rfl⟩ := List.getElem?_eq_some_iff.mp hb
    exact ramByte_of_inside (s := s) (bytes := bytes) rfl hk
  case storeWord =>
    subst hn
    refine ⟨_, (hostStep_of_stmt hst).trans (hostRam_of_clear hin hrace), rfl, fun k hk => ?_,
      fun a ha => ramByte_of_outside (bytes := wordBytes (s.wordVar v)) rfl ha⟩
    rw [← getElem_wordBytes (s.wordVar v) hk]
    exact ramByte_of_inside (s := s) (bytes := wordBytes (s.wordVar v)) rfl hk
  case load =>
    subst heval
    refine ⟨_, (hostStep_of_stmt hst).trans (hostRam_of_clear hin hrace), rfl, fun k hk => ?_⟩
    have hk' : k < (s.ramBytes addr.toNat (s.eval e)).length := by rwa [length_ramBytes]
    exact (byteVar_bindBytes s v hk').trans (getElem_ramBytes s _ _ hk')

end Sys2Proof.Machine
end

section
/-!
PROOFS. The CRC engine (R152 to R156): one step is linear and injective in the register, and the 24 CRC bits shift the
register out.
-/

namespace Sys2Proof.Machine

/-! ### One step -/

theorem crc24_nil (init poly : BitVec 24) : crc24 init poly [] = init := rfl

theorem crc24_cons (init poly : BitVec 24) (b : Bool) (bits : List Bool) :
    crc24 init poly (b :: bits) = crc24 (crcStep poly init b) poly bits := rfl

theorem crc24_append (init poly : BitVec 24) (xs ys : List Bool) :
    crc24 init poly (xs ++ ys) = crc24 (crc24 init poly xs) poly ys := List.foldl_append

/-- R152: what the feedback bit adds to the shifted register. -/
def crcFeedback (poly : BitVec 24) (b : Bool) : BitVec 24 := if b then polyOf poly else 0#24

theorem crcFeedback_xor (poly : BitVec 24) (a b : Bool) :
    crcFeedback poly (a.xor b) = crcFeedback poly a ^^^ crcFeedback poly b := by
  cases a <;> cases b <;> simp [crcFeedback]

/-- R152: a step is a shift and, when the feedback bit is set, the polynomial. -/
theorem crcStep_eq (poly c : BitVec 24) (b : Bool) :
    crcStep poly c b = (c <<< 1) ^^^ crcFeedback poly ((c.getLsbD 23).xor b) := by
  unfold crcStep crcFeedback
  split <;> simp

/-- R151: bit 0 of the polynomial is 1 whatever was written. -/
theorem polyOf_getLsbD_zero (poly : BitVec 24) : (polyOf poly).getLsbD 0 = true := by
  simp [polyOf]

/-- R151: bit 0 of the register after a step is the feedback bit. -/
theorem crcStep_getLsbD_zero (poly c : BitVec 24) (b : Bool) :
    (crcStep poly c b).getLsbD 0 = (c.getLsbD 23).xor b := by
  have hpoly := polyOf_getLsbD_zero poly
  rw [crcStep_eq]
  cases (c.getLsbD 23).xor b <;> simp_all [crcFeedback]

/-- A shift by one loses the top bit only. -/
theorem eq_of_shiftLeft_eq {c d : BitVec 24} (htop : c.getLsbD 23 = d.getLsbD 23) (h : c <<< 1 = d <<< 1) : c = d := by
  refine BitVec.eq_of_getLsbD_eq fun k hk => ?_
  by_cases hk23 : k = 23
  · rw [hk23, htop]
  · have hbit := congrArg (fun v : BitVec 24 => v.getLsbD (k + 1)) h
    have hlt : k + 1 < 24 := by omega
    simpa [hlt, hk] using hbit

/-- R152: a step loses nothing of the register. -/
theorem crcStep_injective (poly : BitVec 24) {c d : BitVec 24} {b : Bool} (h : crcStep poly c b = crcStep poly d b) :
    c = d := by
  have hfeedback : (c.getLsbD 23).xor b = (d.getLsbD 23).xor b := by
    rw [← crcStep_getLsbD_zero, h, crcStep_getLsbD_zero]
  rw [crcStep_eq, crcStep_eq, hfeedback] at h
  exact eq_of_shiftLeft_eq (Bool.xor_left_inj.mp hfeedback) (BitVec.xor_left_inj _ |>.mp h)

/-- R152: the input bit shows in the register. -/
theorem crcStep_bit_injective (poly c : BitVec 24) {b b' : Bool} (h : crcStep poly c b = crcStep poly c b') : b = b' := by
  have hfeedback : (c.getLsbD 23).xor b = (c.getLsbD 23).xor b' := by
    rw [← crcStep_getLsbD_zero, h, crcStep_getLsbD_zero]
  exact Bool.xor_right_inj.mp hfeedback

theorem crc24_injective (poly : BitVec 24) (bits : List Bool) {c d : BitVec 24}
    (h : crc24 c poly bits = crc24 d poly bits) : c = d := by
  induction bits generalizing c d with
  | nil => exact h
  | cons b rest ih => exact crcStep_injective poly (ih h)

/-! ### Linearity -/

theorem crcStep_xor (poly c d : BitVec 24) (a b : Bool) :
    crcStep poly (c ^^^ d) (a.xor b) = crcStep poly c a ^^^ crcStep poly d b := by
  have hshift : (c ^^^ d) <<< 1 = (c <<< 1) ^^^ (d <<< 1) := BitVec.shiftLeft_xor_distrib ..
  simp only [crcStep_eq, BitVec.getLsbD_xor, hshift, crcFeedback_xor]
  ac_rfl

theorem crc24_xor (poly : BitVec 24) (xs ys : List Bool) (h : xs.length = ys.length) (c d : BitVec 24) :
    crc24 (c ^^^ d) poly (List.zipWith Bool.xor xs ys) = crc24 c poly xs ^^^ crc24 d poly ys := by
  induction xs generalizing ys c d with
  | nil =>
    cases ys with
    | nil => rfl
    | cons => simp at h
  | cons x xs ih =>
    cases ys with
    | nil => simp at h
    | cons y ys =>
      rw [List.zipWith_cons_cons, crc24_cons, crc24_cons, crc24_cons, crcStep_xor, ih ys (Nat.succ.inj h)]

/-- Settles O51: linearity with both registers 0. -/
theorem crcIsLinearFromZero : Obligations.CrcIsLinearFromZero := by
  intro poly xs ys h
  rw [← crc24_xor poly xs ys h, BitVec.xor_self]

/-! ### The CRC bits -/

/-- R154: the top bits of a register are the first of its CRC bits; taking them in shifts the register left. -/
theorem crc24_crcBits_take (poly c : BitVec 24) (n : Nat) (hn : n ≤ 24) :
    crc24 c poly ((crcBits c).take n) = c <<< n := by
  induction n with
  | zero => simp [crc24_nil]
  | succ n ih =>
    have hlen : n < (crcBits c).length := by rw [length_crcBits]; omega
    have hbit : (crcBits c)[n] = (c <<< n).getLsbD 23 := by
      have hn23 : ¬ 23 < n := by omega
      have hidx : 23 - n < 24 := by omega
      simp [crcBits, hn23, hidx]
    rw [List.take_add_one, List.getElem?_eq_getElem hlen, crc24_append, ih (by omega), hbit]
    simp only [Option.toList, crc24_cons, crc24_nil, crcStep_eq, Bool.xor_self, crcFeedback, Bool.false_eq_true, if_false]
    rw [BitVec.xor_zero, ← BitVec.shiftLeft_add]

/-- Settles O49: after the stream the register is what its CRC bits shift out. -/
theorem crcResidueIsZero : Obligations.CrcResidueIsZero := by
  intro init poly bits
  have hall := crc24_crcBits_take poly (crc24 init poly bits) 24 (Nat.le_refl _)
  rw [List.take_of_length_le (Nat.le_of_eq (length_crcBits _))] at hall
  rw [crc24_append, hall]
  exact BitVec.shiftLeft_eq_zero (Nat.le_refl 24)

/-- R139: the number of a stream read most significant bit first, bit by bit. -/
theorem natOfBitsMsb_append (bits : List Bool) (b : Bool) :
    natOfBitsMsb (bits ++ [b]) = 2 * natOfBitsMsb bits + b.toNat := by
  simp [natOfBitsMsb]

theorem testBit_natOfBitsMsb (bits : List Bool) (j : Nat) :
    (natOfBitsMsb bits).testBit j = bits.reverse[j]?.getD false := by
  induction bits using List.reverseRecOn generalizing j with
  | nil => simp [natOfBitsMsb]
  | append_singleton bits b ih =>
    rw [natOfBitsMsb_append, List.reverse_append, List.reverse_singleton, List.singleton_append]
    cases j with
    | zero => cases b <;> simp [Nat.testBit_zero]
    | succ j =>
      have hhalf : (2 * natOfBitsMsb bits + b.toNat) / 2 = natOfBitsMsb bits := by cases b <;> simp; omega
      rw [Nat.testBit_succ, hhalf, ih, List.getElem?_cons_succ]

/-- R139: bit j of the received field is the j-th from the end. -/
theorem getLsbD_crcOfBits {bits : List Bool} (hlen : bits.length = 24) {j : Nat} (hj : j < 24) :
    (crcOfBits bits).getLsbD j = bits[23 - j] := by
  have hidx : 24 - 1 - j = 23 - j := by omega
  rw [crcOfBits, BitVec.getLsbD_ofNat, testBit_natOfBitsMsb]
  simp [hj, hlen]

/-- R139, R154: the received field of a register's CRC bits is the register. -/
theorem crcOfBits_crcBits (c : BitVec 24) : crcOfBits (crcBits c) = c := by
  refine BitVec.eq_of_getLsbD_eq fun j hj => ?_
  have hback : 23 - (23 - j) = j := by omega
  rw [getLsbD_crcOfBits (length_crcBits c) hj]
  simp [crcBits, hback]

/-- R139, R154: 24 bits are the CRC bits of the field they are read as. -/
theorem crcBits_crcOfBits {bits : List Bool} (hlen : bits.length = 24) : crcBits (crcOfBits bits) = bits := by
  refine List.ext_getElem (by rw [length_crcBits, hlen]) fun k hk _ => ?_
  rw [length_crcBits] at hk
  have hback : 23 - (23 - k) = k := by omega
  have hbit := getLsbD_crcOfBits hlen (j := 23 - k) (by omega)
  simp only [hback] at hbit
  simp [crcBits, hbit]

/-! ### Single-bit errors -/

theorem length_flipAt (bits : List Bool) (k : Nat) : (flipAt bits k).length = bits.length := by
  induction bits generalizing k with
  | nil => rfl
  | cons b rest ih => cases k <;> simp [flipAt, ih]

theorem flipAt_ne {bits : List Bool} {k : Nat} (hk : k < bits.length) : flipAt bits k ≠ bits := by
  induction bits generalizing k with
  | nil => simp at hk
  | cons b rest ih =>
    cases k with
    | zero => simp [flipAt]
    | succ k => simpa [flipAt] using ih (Nat.lt_of_succ_lt_succ hk)

theorem flipAt_append_left {xs : List Bool} {k : Nat} (hk : k < xs.length) (ys : List Bool) :
    flipAt (xs ++ ys) k = flipAt xs k ++ ys := by
  induction xs generalizing k with
  | nil => simp at hk
  | cons x xs ih =>
    cases k with
    | zero => rfl
    | succ k => simpa [flipAt] using ih (Nat.lt_of_succ_lt_succ hk)

theorem flipAt_append_right (xs ys : List Bool) (k : Nat) : flipAt (xs ++ ys) (xs.length + k) = xs ++ flipAt ys k := by
  induction xs with
  | nil => simp
  | cons x xs ih => simpa [flipAt, Nat.succ_add] using ih

/-- R155: inverting one bit of a stream changes its CRC. -/
theorem crc24_flipAt_ne (poly : BitVec 24) (bits : List Bool) (init : BitVec 24) {k : Nat} (hk : k < bits.length) :
    crc24 init poly (flipAt bits k) ≠ crc24 init poly bits := by
  induction bits generalizing init k with
  | nil => simp at hk
  | cons b rest ih =>
    cases k with
    | zero =>
      intro h
      have hbit := crcStep_bit_injective poly init (crc24_injective poly rest h)
      simp at hbit
    | succ k => exact ih (crcStep poly init b) (Nat.lt_of_succ_lt_succ hk)

/-- Settles O50: the inverted bit is one of the PDU, and its CRC differs from the field, or one of the field, and the
field differs from the CRC. -/
theorem crcDetectsEverySingleBitError : Obligations.CrcDetectsEverySingleBitError := by
  intro init poly pdu k hk
  by_cases hpdu : k < pdu.length
  · have hlen := length_flipAt pdu k
    rw [flipAt_append_left hpdu, ← hlen, List.take_left, List.drop_left]
    refine decide_eq_false fun h => ?_
    rw [crcOfBits_crcBits] at h
    exact crc24_flipAt_ne poly pdu init hpdu h.symm
  · obtain ⟨j, rfl⟩ := Nat.exists_eq_add_of_le (Nat.le_of_not_lt hpdu)
    rw [flipAt_append_right, List.take_left, List.drop_left]
    refine decide_eq_false fun h => ?_
    have hj : j < (crcBits (crc24 init poly pdu)).length := by rw [length_crcBits]; omega
    have hfield := crcBits_crcOfBits ((length_flipAt _ j).trans (length_crcBits (crc24 init poly pdu)))
    rw [h] at hfield
    exact flipAt_ne hj hfield.symm

/-- Settles O52: the engine run on each row. -/
theorem crcEngineVectors : Obligations.CrcEngineVectors := by
  and_intros <;> decide +kernel

end Sys2Proof.Machine
end

section
/-!
PROOFS. The whitening engine (R160 to R165): the stream it makes is its own inverse and runs on across a split, and its
register returns after 127 steps, a prime, and no fewer.
-/

namespace Sys2Proof.Machine

/-- R164: whitening twice from one start gives the stream back. -/
theorem whiten_whiten (p : BitVec 7) (bits : List Bool) : whiten p (whiten p bits) = bits := by
  induction bits generalizing p with
  | nil => rfl
  | cons b rest ih => simp [whiten, ih]

/-- R163: the register runs on from one part of the stream to the next. -/
theorem whiten_append (p : BitVec 7) (xs ys : List Bool) :
    whiten p (xs ++ ys) = whiten p xs ++ whiten (whitenAdvance xs.length p) ys := by
  induction xs generalizing p with
  | nil => rfl
  | cons x xs ih => simp [whiten, whitenAdvance, ih]

/-- Settles O53: both clauses follow the stream bit by bit. -/
theorem whiteningIsItsOwnInverse : Obligations.WhiteningIsItsOwnInverse := ⟨whiten_whiten, whiten_append⟩

/-- The register after `n` steps is the `n`-th iterate of one step. -/
theorem whitenAdvance_eq_iterate (n : Nat) (p : BitVec 7) : whitenAdvance n p = whitenNext^[n] p := by
  induction n generalizing p with
  | zero => rfl
  | succ n ih => exact ih (whitenNext p)

/-- R165: every register returns after 127 steps. -/
theorem whitenNext_isPeriodicPt (p : BitVec 7) : Function.IsPeriodicPt whitenNext 127 p := by
  have h : ∀ p : BitVec 7, whitenAdvance 127 p = p := by decide +kernel
  exact (whitenAdvance_eq_iterate 127 p).symm.trans (h p)

/-- R161: the only register a step leaves is 0. -/
theorem whitenNext_eq_self : ∀ p : BitVec 7, whitenNext p = p → p = 0#7 := by decide

/-- R165: from a non-zero register no shorter run returns: its length and 127 have no common divisor but 1. -/
theorem whitenAdvance_ne_self {p : BitVec 7} (hp : p ≠ 0#7) {n : Nat} (hpos : 0 < n) (hlt : n < 127) :
    whitenAdvance n p ≠ p := by
  intro h
  have hperiod : Function.IsPeriodicPt whitenNext n p := (whitenAdvance_eq_iterate n p).symm.trans h
  have hprime : Nat.Prime 127 := by norm_num
  have hcoprime : Nat.gcd n 127 = 1 := Nat.Coprime.symm (Nat.coprime_of_lt_prime hpos.ne' hlt hprime)
  have hone := hperiod.gcd (whitenNext_isPeriodicPt p)
  rw [hcoprime] at hone
  exact hp (whitenNext_eq_self p hone)

theorem whitenAdvance_add_period (p : BitVec 7) (n : Nat) : whitenAdvance (n + 127) p = whitenAdvance n p := by
  rw [whitenAdvance_eq_iterate, whitenAdvance_eq_iterate, Function.iterate_add_apply, whitenNext_isPeriodicPt p]

/-- R161: a step leads to 0 from 0 only. -/
theorem whitenNext_eq_zero : ∀ p : BitVec 7, whitenNext p = 0#7 → p = 0#7 := by decide

/-- R165: a register that comes to 0 was 0. -/
theorem whitenAdvance_ne_zero {p : BitVec 7} (hp : p ≠ 0#7) (n : Nat) : whitenAdvance n p ≠ 0#7 := by
  induction n generalizing p with
  | zero => exact hp
  | succ n ih => exact ih fun h => hp (whitenNext_eq_zero p h)

/-- R42, R160: position 0 of a load is the hardwired bit of DATAWHITEIV. -/
theorem whitenInit_whiteIv_ne_zero (s : State) : whitenInit s.whiteIv ≠ 0#7 := by
  intro h
  have hiv : s.whiteIv.getLsbD 6 = true := by
    simpa [State.whiteIv, field] using s.reg_datawhiteiv_bit6
  have hbit : (whitenInit s.whiteIv).getLsbD 0 = true := by
    rw [whitenInit, BitVec.getLsbD_append, hiv]
    rfl
  rw [h] at hbit
  cases hbit

/-- Settles O54: the period divides 127, and a step leaves 0 alone and leads to it from nowhere else. -/
theorem whiteningHasPeriod127 : Obligations.WhiteningHasPeriod127 :=
  ⟨whitenAdvance_add_period, fun _ n hp => whitenAdvance_ne_zero hp n,
    fun _ _ hp hpos hlt => whitenAdvance_ne_self hp hpos hlt, whitenInit_whiteIv_ne_zero⟩

end Sys2Proof.Machine
end

section
/-!
PROOFS. The PDU codec both ways (R130, R140 to R143).
-/

namespace Sys2Proof.Machine

theorem pduMatch_of_no_match {length : Byte} {advA expected : BitVec 48} (h : length.toNat < 6 ∨ advA ≠ expected)
    (advData : List Byte) : pduMatch length advA advData expected = .noMatch := by
  unfold pduMatch
  split
  · rfl
  · exact if_pos (h.resolve_left ‹_›)

theorem pduMatch_of_match {length : Byte} (hlen : 6 ≤ length.toNat) (advA : BitVec 48) (advData : List Byte) :
    pduMatch length advA advData advA = .found (advDataRead length) (advData.take (advDataRead length)) := by
  rw [pduMatch, if_neg (Nat.not_lt.mpr hlen), if_neg (not_not.mpr rfl)]

/-- Settles O57: the row's result is the match of R140. -/
theorem pduRowComparesTheAddress : Obligations.PduRowComparesTheAddress := by
  intro length advA advData s
  refine ⟨pduMatch length advA advData s.filterAddr, rfl, fun h => pduMatch_of_no_match h advData,
    fun hlen haddr => ?_⟩
  rw [← haddr, pduMatch_of_match hlen]
  rfl

/-- R142: LENGTH, in one byte, counts the payload and the six bytes of AdvA. -/
theorem toNat_encodedLength {n : Nat} (h : n ≤ 31) : (BitVec.ofNat 8 (6 + n)).toNat = 6 + n := by
  rw [BitVec.toNat_ofNat, Nat.mod_eq_of_lt (by omega)]

/-- R141: the decoder reads exactly the payload the encoder put in. -/
theorem advDataRead_encodedLength {n : Nat} (h : n ≤ 31) : advDataRead (BitVec.ofNat 8 (6 + n)) = n := by
  rw [advDataRead, toNat_encodedLength h]
  omega

/-- R140: a buffer that begins with a packet image is matched by its fields. -/
theorem pduDecode_pduImage (length : Byte) (advA expected : BitVec 48) (advData pad : List Byte) :
    pduDecode (pduImage length advA advData ++ pad) expected = pduMatch length advA (advData ++ pad) expected := by
  rw [pduDecode, decodePdu_pduImage]

/-- Settles O56: the encoded image decodes to its own fields, of which the padding is no part. -/
theorem encodedPduDecodesToItsPayload : Obligations.EncodedPduDecodesToItsPayload := by
  intro address expected payload pad hn
  refine ⟨_, pduEncode_of_le hn address, ?_, fun hne => ?_⟩
  · have hlen : 6 ≤ (BitVec.ofNat 8 (6 + payload.length)).toNat := by rw [toNat_encodedLength hn]; omega
    rw [pduDecode_pduImage, pduMatch_of_match hlen, advDataRead_encodedLength hn, List.take_left]
  · rw [pduDecode_pduImage, pduMatch_of_no_match (.inr hne.symm)]

end Sys2Proof.Machine
end

section
/-!
PROOFS. RADIO's step table (R191) row by row, AIR's delivery (R137), the whole of a transmit session (R134, R136) and the
receiver's CRC and CTE steps (R139, R242).
-/

namespace Sys2Proof.Machine

/-! ### Where no step is enabled -/

/-- Settles O41: the rows of the step table that stay where they are. -/
theorem noRadioStepWhenNoneIsEnabled : Obligations.NoRadioStepWhenNoneIsEnabled := by
  refine fun s => ⟨fun h => ?disabled, fun h => ?stays⟩
  case disabled =>
    obtain hp | hr | hr | hr | ⟨hr | hr, hf⟩ | ⟨hr, hf⟩ := h <;> simp [State.radioEnabled, *]
  case stays =>
    cases hp : s.powered with
    | false => simp [radioStep, hp]
    | true =>
      cases hr : s.radioState with
      | disabled | txidle | rxidle => simp [radioStep, hp, hr]
      | txru | rxru | txdisable | rxdisable => simp [State.radioEnabled, hp, hr] at h
      | tx =>
        rw [radioStep_of_tx hp hr]
        cases hf : s.phase <;> simp [State.radioEnabled, hp, hr, hf, State.txStep] at h ⊢
      | rx =>
        rw [radioStep_of_rx hp hr]
        cases hf : s.phase <;> simp [State.radioEnabled, hp, hr, hf, State.rxStep] at h ⊢

/-! ### Rows of the transmit and receive tables -/

section

variable {s : State} (hp : s.powered = true)
include hp

theorem radioStep_of_tx_addr (hr : s.radioState = .tx) (hf : s.phase = .addr) : radioStep s = .next s.txAddrStep := by
  rw [radioStep_of_tx hp hr, State.txStep, hf]

theorem radioStep_of_tx_payload (hr : s.radioState = .tx) (hf : s.phase = .payload)
    (hlen : (s.ramByte (s.packetPtr + 1)).toNat ≤ s.maxlen) : radioStep s = .next s.txPayloadNext := by
  rw [radioStep_of_tx hp hr, txStep_of_payload hf, State.txPayloadStep, if_neg (Nat.not_lt.mpr hlen)]

theorem radioStep_of_tx_crc (hr : s.radioState = .tx) (hf : s.phase = .crc) : radioStep s = .next s.txCrcStep := by
  rw [radioStep_of_tx hp hr, State.txStep, hf]

theorem radioStep_of_tx_cte (hr : s.radioState = .tx) (hf : s.phase = .cte) : radioStep s = .next s.txCteStep := by
  rw [radioStep_of_tx hp hr, State.txStep, hf]

theorem radioStep_of_rx_payload (hr : s.radioState = .rx) (hf : s.phase = .payload) :
    radioStep s = .next s.rxPayloadStep := by
  rw [radioStep_of_rx hp hr, rxStep_of_payload hf]

theorem radioStep_of_rx_crc (hr : s.radioState = .rx) (hf : s.phase = .crc) : radioStep s = .next s.rxCrcStep := by
  rw [radioStep_of_rx hp hr, State.rxStep, hf]

theorem radioStep_of_rx_cte (hr : s.radioState = .rx) (hf : s.phase = .cte) : radioStep s = .next s.rxCteStep := by
  rw [radioStep_of_rx hp hr, State.rxStep, hf]

end

theorem radioRun_succ {s t : State} (h : radioStep s = .next t) (n : Nat) : radioRun (n + 1) s = radioRun n t := by
  rw [radioRun, h, bindOut]

/-! ### AIR -/

/-- R137: when RADIO hears a transmission. -/
theorem hears_iff (s : State) (f : AirFrame) :
    s.hears f = true ↔ s.powered = true ∧ s.radioState = .rx ∧ s.phase = .search ∧
      f.carrier = 2400 + s.freqOffset.toNat ∧ f.aa = s.accessAddress := by
  simp only [State.hears, Bool.and_eq_true, decide_eq_true_eq, and_assoc]
  rfl

theorem airStep_of_heard {s : State} {f : AirFrame} (hnext : s.nextAir = some f) (hears : s.hears f = true) :
    airStep s = { s.rxDeliver f with airIn := s.airIn.tail } := by
  simp only [airStep, hnext, hears, if_true]

theorem airStep_of_unheard {s : State} {f : AirFrame} (hnext : s.nextAir = some f) (hears : s.hears f = false) :
    airStep s = { s with airIn := s.airIn.tail } := by
  simp only [airStep, hnext, hears, Bool.false_eq_true, if_false]

theorem airStep_of_silence {s : State} (hnext : s.nextAir = none) : airStep s = s := by
  simp only [airStep, hnext]

theorem nextAir_of_cons {s : State} {f : AirFrame} {rest : List AirFrame} (h : s.airIn = f :: rest) :
    s.nextAir = some f := by
  simp only [State.nextAir, h]

theorem nextAir_of_nil {s : State} (h : s.airIn = []) : s.nextAir = Config.freeAir s.tick := by
  simp only [State.nextAir, h]

/-- Settles O44: the conditions are those of `hears`, met or not. -/
theorem onlyMatchingFramesAreReceived : Obligations.OnlyMatchingFramesAreReceived := by
  refine fun s => ⟨fun f rest h => nextAir_of_cons h, nextAir_of_nil, airStep_of_silence, fun f hnext =>
    ⟨fun hp hr hf hcarrier haddress => ?heard, fun h => ?unheard⟩⟩
  case heard =>
    rw [airStep_of_heard hnext ((hears_iff s f).mpr ⟨hp, hr, hf, hcarrier, haddress⟩)]
    rfl
  case unheard =>
    refine airStep_of_unheard hnext (Bool.eq_false_iff.mpr fun hears => ?_)
    obtain ⟨hp, hr, hf, hcarrier, haddress⟩ := (hears_iff s f).mp hears
    simp [hp, hr, hf, hcarrier, haddress] at h

/-! ### The receiver's CRC and CTE steps -/

/-- Settles O46: the step's value and outcome, by whether LENGTH is within MAXLEN. -/
theorem receiveCrcStepReportsTheCheck : Obligations.ReceiveCrcStepReportsTheCheck := by
  intro s hp hr hf
  refine ⟨s.rxCrcStep, s.rxCrcOk, radioStep_of_rx_crc hp hr hf, s.rxCrcStep_crcStatus, fun hlen => ?within,
    fun hlen => ?overlong, ?events, s.rxCrcStep_phase, s.rxCrcStep_ram⟩
  case within =>
    rw [State.rxCrcStep_rxCrc, State.rxCrcValue, State.rxCrcOk, if_pos hlen, if_pos hlen]
    exact ⟨rfl, decide_eq_true_iff⟩
  case overlong =>
    have hnot : ¬ s.curLen.toNat ≤ s.maxlen := Nat.not_le.mpr hlen
    rw [State.rxCrcStep_rxCrc, State.rxCrcValue, State.rxCrcOk, if_neg hnot, if_neg hnot]
    exact ⟨rfl, rfl⟩
  case events =>
    rw [State.rxCrcStep_events]
    cases s.rxCrcOk <;> simp [EventFile.set]

/-- R75: a byte of a list of words, by its word and its place in it. -/
theorem getElem?_flatMap_wordBytes (words : List Word) {k j : Nat} {w : Word} (hw : words[k]? = some w) (hj : j < 4) :
    (words.flatMap wordBytes)[4 * k + j]? = some (BitVec.ofNat 8 (w.toNat / 2 ^ (8 * j))) := by
  induction words generalizing k with
  | nil => simp at hw
  | cons v rest ih =>
    rw [List.flatMap_cons]
    cases k with
    | zero =>
      obtain rfl : v = w := by simpa using hw
      have hj' : j < (wordBytes v).length := hj
      rw [Nat.mul_zero, Nat.zero_add, List.getElem?_append_left hj', List.getElem?_eq_getElem hj',
        getElem_wordBytes v hj']
    | succ k =>
      have hidx : 4 * (k + 1) + j - (wordBytes v).length = 4 * k + j := by rw [length_wordBytes]; omega
      rw [List.getElem?_append_right (by rw [length_wordBytes]; omega), hidx]
      exact ih (by simpa using hw)

/-- Settles O47: the words written are those the frame holds, up to MAXCNT. -/
theorem captureWritesTheIqWords : Obligations.CaptureWritesTheIqWords := by
  intro s hp hr hf
  refine ⟨s.rxCteStep, radioStep_of_rx_cte hp hr hf, s.rxCteStep_phase, s.rxCteStep_events, ?_, fun hc => ?cte,
    fun hc => ?noCte⟩
  · rw [rxCteStep_eq hr]
  case cte =>
    have hram : s.rxCteStep.ram = writeBytes s.ram s.iqPtr (s.iqWords.flatMap wordBytes) := by
      rw [State.rxCteStep_ram, iqCapture_of_cte s hc]
    have hlength := length_flatMap_wordBytes s.iqWords
    have hmax := length_iqWords_le s
    have hbound := s.iqMaxcnt_lt
    refine ⟨s.iqWords, hmax, List.take_prefix _ _, ?amount, fun k w hw j hj => ?inside, fun a ha => ?outside⟩
    case amount =>
      rw [State.rxCteStep_amount, iqCapture_of_cte s hc, BitVec.toNat_ofNat, Nat.mod_eq_of_lt (by omega)]
    case inside =>
      obtain ⟨hin, hbyte⟩ := List.getElem?_eq_some_iff.mp (getElem?_flatMap_wordBytes s.iqWords hw hj)
      rw [← hbyte, Nat.add_assoc]
      exact ramByte_of_inside hram hin
    case outside => exact ramByte_of_outside hram (by rwa [hlength])
  case noCte =>
    rw [State.rxCteStep_ram, State.rxCteStep_amount, iqCapture_of_no_cte s hc]
    exact ⟨rfl, rfl⟩

/-! ### A transmit session -/

/-- R163: the framer's register runs on from the PDU to the CRC. -/
theorem whitenIf_append (on : Bool) (p : BitVec 7) (xs ys : List Bool) :
    whitenIf on p (xs ++ ys) = whitenIf on p xs ++ whitenIf on (whitenAfter on p xs.length) ys := by
  cases on with
  | false => rfl
  | true => exact whiten_append p xs ys

theorem ramBytes_congr {s t : State} (h : t.ram = s.ram) (a n : Nat) : t.ramBytes a n = s.ramBytes a n := by
  simp [State.ramBytes, ramByte_congr h]

theorem txPacket_congr {s t : State} (hcfg : t.cfg = s.cfg) (hram : t.ram = s.ram) : t.txPacket = s.txPacket := by
  simp [State.txPacket, State.packetPtr_congr hcfg, ramByte_congr hram, ramBytes_congr hram]

/-- R133, R134: the bits three framer steps have built. -/
theorem txCrcStep_txBits_eq (s : State) : s.txAddrStep.txPayloadNext.txCrcStep.txBits = s.txFrameBits := by
  simp only [State.txCrcStep_txBits, State.txPayloadNext_txBits, State.txAddrStep_txBits, State.txPayloadNext_crcReg,
    State.txAddrStep_crcReg, State.txPayloadNext_whiteLfsr, State.txAddrStep_whiteLfsr]
  have hcfg : s.txAddrStep.cfg = s.cfg := s.txAddrStep_cfg
  have hcfg' : s.txAddrStep.txPayloadNext.cfg = s.cfg := hcfg
  rw [State.whiteen_congr hcfg', State.whiteen_congr hcfg, State.crcPoly_congr hcfg,
    txPacket_congr hcfg s.txAddrStep_ram, State.txFrameBits, whitenIf_append]
  simp only [List.append_assoc]

/-- R136: the record of a frame, from the registers. -/
theorem airRecord_congr {s t : State} (hcfg : t.cfg = s.cfg) :
    t.airRecord =
      { carrierMhz := 2400 + s.freqOffset.toNat
        bits := t.txBits
        cte8us := if s.dfeOpMode = 3#2 then s.numberOf8us else 0 } := by
  rw [State.airRecord, State.carrierMhz_congr hcfg, State.cteEnabled_congr hcfg, State.numberOf8us_congr hcfg]
  simp [State.carrierMhz, State.cteEnabled]

theorem txFrameBits_congr {s t : State} (hcfg : t.cfg = s.cfg) (hram : t.ram = s.ram) :
    t.txFrameBits = s.txFrameBits := by
  simp only [State.txFrameBits, State.accessAddress_congr hcfg, State.whiteen_congr hcfg, State.whiteIv_congr hcfg,
    State.crcInit_congr hcfg, State.crcPoly_congr hcfg, txPacket_congr hcfg hram]

/-- Settles O42: ramp-up, the four framer steps and the disable step, one after the other. -/
theorem transmitSessionLogsTheFrame : Obligations.TransmitSessionLogsTheFrame := by
  intro s hp hr hstart hend hlen
  have hramped := rampUp_txidle_of_shortcut hstart
  set sent := (s.rampUp .txidle).txAddrStep.txPayloadNext.txCrcStep with hsent
  have hcfg : sent.cfg = s.cfg := by simp [hsent]
  have htx : sent.radioState = .tx := by simp [hsent, hramped]
  refine ⟨sent.txCteStep.disableStep, ?run, ?_⟩
  case run =>
    have hlength : ((s.rampUp .txidle).txAddrStep.ramByte ((s.rampUp .txidle).txAddrStep.packetPtr + 1)).toNat ≤
        (s.rampUp .txidle).txAddrStep.maxlen := by
      have hcfg' : (s.rampUp .txidle).txAddrStep.cfg = s.cfg := by simp
      rwa [ramByte_congr (s := s) (by simp), State.packetPtr_congr hcfg', State.maxlen_congr hcfg']
    have hdisabling : sent.txCteStep.radioState = .txdisable := by
      simp [txCteStep_eq htx, State.phyendDisable_congr hcfg, hend]
    rw [radioRun_succ (radioStep_of_txru hp hr),
      radioRun_succ (radioStep_of_tx_addr (by simp [hp]) (by simp [hramped]) (by simp [hramped])),
      radioRun_succ (radioStep_of_tx_payload (by simp [hp]) (by simp [hramped]) (by simp) hlength),
      radioRun_succ (radioStep_of_tx_crc (by simp [hp]) (by simp [hramped]) (by simp)),
      radioRun_succ (radioStep_of_tx_cte (by simp [hsent, hp]) htx (by simp [hsent])),
      radioRun_succ (radioStep_of_disabling (by simp [hsent, hp]) (.inl hdisabling))]
    rfl
  have hbits : sent.txBits = s.txFrameBits :=
    (txCrcStep_txBits_eq _).trans (txFrameBits_congr (by simp) (by simp))
  have hlog : sent.airLog = s.airLog := by simp [hsent]
  refine ⟨?log, rfl, rfl, rfl, ?events, ?rest⟩
  case log => rw [State.disableStep_airLog, State.txCteStep_airLog, airRecord_congr hcfg, hbits, hlog]
  case events => simp [hsent, EventFile.set]
  case rest => simp [hsent]

end Sys2Proof.Machine
end

section
/-!
PROOFS. A reception undoes a transmission (R143): what the framer of the sender puts in the stream, the framer of the
receiver takes out of it.
-/

namespace Sys2Proof.Machine

/-! ### Bytes and bits -/

/-- R13: the eight bits of a byte are read back as the byte. -/
theorem ofNat_natOfBits_bitsOf : ∀ b : Byte, BitVec.ofNat 8 (natOfBits (bitsOf 8 b)) = b := by decide +kernel

theorem byteAt_bitsOf_append (b : Byte) (rest : List Bool) : byteAt (bitsOf 8 b ++ rest) 0 = b := by
  rw [byteAt, Nat.mul_zero, List.drop_zero, List.take_left' (length_bitsOf 8 b), ofNat_natOfBits_bitsOf]

/-- R13: the bytes of a stream that begins with the bits of `bytes`. -/
theorem bytesOfStream_bitsLsb (bytes : List Byte) (rest : List Bool) :
    bytesOfStream bytes.length (bitsLsb bytes ++ rest) = bytes := by
  induction bytes with
  | nil => rfl
  | cons b bytes ih =>
    rw [bitsLsb_cons, List.append_assoc, List.length_cons, bytesOfStream, byteAt_bitsOf_append,
      List.drop_left' (length_bitsOf 8 b), ih]

theorem byteAt_bitsLsb {bytes : List Byte} {j : Nat} (hj : j < bytes.length) (rest : List Bool) :
    byteAt (bitsLsb bytes ++ rest) j = bytes[j] := by
  rw [← getElem_bytesOfStream bytes.length _ j (by rwa [length_bytesOfStream])]
  simp only [bytesOfStream_bitsLsb]

/-- A run of RAM just written holds the bytes written. -/
theorem ramBytes_of_written {s t : State} {a : Nat} {bytes : List Byte} (ht : t.ram = writeBytes s.ram a bytes) :
    t.ramBytes a bytes.length = bytes := by
  refine List.ext_getElem (length_ramBytes _ _ _) fun k _ hk => ?_
  rw [getElem_ramBytes, ramByte_of_inside ht hk]

/-! ### The receiver's stream -/

/-- R164, for the framer with whitening on or off. -/
theorem whitenIf_whitenIf (on : Bool) (p : BitVec 7) (bits : List Bool) :
    whitenIf on p (whitenIf on p bits) = bits := by
  cases on with
  | false => rfl
  | true => exact whiten_whiten p bits

/-- What a sender with this whitening start puts on air for the PDU `bytes` and the CRC value `c`. -/
def sentStream (s : State) (bytes : List Byte) (c : BitVec 24) : List Bool :=
  whitenIf s.whiteen s.whiteLfsr (bitsLsb bytes ++ crcBits c)

/-- R133: a sender's frame after preamble and access address is that stream for its packet and its CRC. -/
theorem txFrameBits_drop (a s : State) (hon : a.whiteen = s.whiteen) (hstart : whitenInit a.whiteIv = s.whiteLfsr) :
    a.txFrameBits.drop 40 = sentStream s a.txPacket (crc24 a.crcInit a.crcPoly (bitsLsb a.txPacket)) := by
  rw [State.txFrameBits, List.drop_left' (by simp), hon, hstart, sentStream]

section

variable {s : State} {bytes : List Byte} {c : BitVec 24} {junk : List Bool}
  (hbits : s.rxFrame.bits = sentStream s bytes c ++ junk)
include hbits

/-- R138, R164: de-whitened, the received bits are the PDU's. -/
theorem rxPlain_of_sent {n : Nat} (hn : n ≤ (bitsLsb bytes).length) : s.rxPlain n = (bitsLsb bytes).take n := by
  have hwhole : s.rxPlain (sentStream s bytes c).length = bitsLsb bytes ++ crcBits c := by
    rw [State.rxPlain, State.rxBits, List.drop_zero, hbits, streamBits_append, sentStream, whitenIf_whitenIf]
  rw [← List.take_append_of_le_length (l₂ := crcBits c) hn, ← hwhole]
  refine (rxPlain_take s _ n ?_).symm
  simp [sentStream, length_bitsLsb] at hn ⊢
  omega

/-- R138: the receiver's bytes 0 and 1 are the PDU's. -/
theorem byteAt_rxPlain_of_sent {j : Nat} (hj : j < 2) (hlen : 2 ≤ bytes.length) :
    byteAt (s.rxPlain 16) j = bytes[j] := by
  have h16 : 16 ≤ (bitsLsb bytes).length := by rw [length_bitsLsb]; omega
  rw [rxPlain_of_sent hbits h16, byteAt_take _ _ _ (by omega), ← byteAt_bitsLsb (by omega) [], List.append_nil]

variable (hlen : bytes.length = 2 + s.rxLen.toNat)
include hlen

theorem rxPlain_pduBits_of_sent : s.rxPlain (pduBits s.rxLen) = bitsLsb bytes := by
  have hpdu : pduBits s.rxLen = (bitsLsb bytes).length := by rw [length_bitsLsb, hlen, pduBits]
  rw [hpdu, rxPlain_of_sent hbits (Nat.le_refl _), List.take_length]

/-- R138: the bytes stored are those sent. -/
theorem rxStored_of_sent (hmax : s.rxLen.toNat ≤ s.maxlen) : s.rxStored = bytes := by
  rw [State.rxStored, rxPlain_pduBits_of_sent hbits hlen, Nat.min_eq_left hmax, ← hlen]
  simpa using bytesOfStream_bitsLsb bytes []

/-- R139: the CRC field received is the one sent. -/
theorem rxCrcField_of_sent : s.rxPayloadStep.rxCrcField = c := by
  have hcfg : s.rxPayloadStep.cfg = s.cfg := s.rxPayloadStep_cfg
  have hpdu : pduBits s.rxLen = (bitsLsb bytes).length := by rw [length_bitsLsb, hlen, pduBits]
  have htail : s.rxFrame.bits.drop (bitsLsb bytes).length =
      whitenIf s.whiteen (whitenAfter s.whiteen s.whiteLfsr (bitsLsb bytes).length) (crcBits c) ++ junk := by
    rw [hbits, sentStream, whitenIf_append, List.append_assoc, List.drop_left' (length_whitenIf _ _ _)]
  have hread := streamBits_append (whitenIf s.whiteen (whitenAfter s.whiteen s.whiteLfsr (bitsLsb bytes).length)
    (crcBits c)) junk s.rxSeed (bitsLsb bytes).length
  rw [length_whitenIf, length_crcBits] at hread
  rw [State.rxCrcField, State.rxBits, State.whiteen_congr hcfg, State.rxPayloadStep_rxFrame, State.rxPayloadStep_rxSeed,
    State.rxPayloadStep_curLen, State.rxPayloadStep_whiteLfsr, hpdu, htail, hread, whitenIf_whitenIf,
    crcOfBits_crcBits]

section

variable (hmax : s.rxLen.toNat ≤ s.maxlen)
include hmax

theorem rxCrcValue_of_sent : s.rxPayloadStep.rxCrcValue = c := by
  rw [State.rxCrcValue, State.rxPayloadStep_curLen, State.maxlen_congr s.rxPayloadStep_cfg, if_pos hmax,
    rxCrcField_of_sent hbits hlen]

/-- R139: the check passes when the receiver's engine starts where the sender's did. -/
theorem rxCrcOk_of_sent (hc : c = crc24 s.crcReg s.crcPoly (bitsLsb bytes)) : s.rxPayloadStep.rxCrcOk = true := by
  rw [State.rxCrcOk, State.rxPayloadStep_curLen, State.maxlen_congr s.rxPayloadStep_cfg, if_pos hmax,
    rxCrcField_of_sent hbits hlen, State.rxPayloadStep_crcReg, rxPlain_pduBits_of_sent hbits hlen]
  exact decide_eq_true hc

/-- R138: the PDU is what the two steps write. -/
theorem rxCrcStep_ram_of_sent : s.rxPayloadStep.rxCrcStep.ram = writeBytes s.ram s.packetPtr bytes := by
  rw [State.rxCrcStep_ram, State.rxPayloadStep_ram, rxStored_of_sent hbits hlen hmax]

end

end

/-- R133: a packet is S0, LENGTH and LENGTH bytes. -/
theorem length_txPacket (s : State) : s.txPacket.length = 2 + (s.ramByte (s.packetPtr + 1)).toNat := by
  rw [State.txPacket, List.length_cons, List.length_cons, length_ramBytes]
  omega

/-- Settles O48: the delivery loads the receiver's engines as the sender's, and the two steps read the stream back. -/
theorem receptionRecoversTheTransmittedPacket : Obligations.ReceptionRecoversTheTransmittedPacket := by
  intro a b f rest junk hon hiv hinit hpoly hmaxlen hair hears hbits
  obtain ⟨hp, hr, -, -, -⟩ := (hears_iff b f).mp hears
  have hcount := length_txPacket a
  obtain ⟨r, hdelivered⟩ : ∃ r : State, r = { b.rxDeliver f with airIn := b.airIn.tail } := ⟨_, rfl⟩
  have hcfg : r.cfg = b.cfg := hdelivered ▸ b.rxDeliver_cfg f
  have hpowered : r.powered = true := hdelivered ▸ hp
  have hrx : r.radioState = .rx := hdelivered ▸ hr
  have hsent : r.rxFrame.bits =
      sentStream r a.txPacket (crc24 a.crcInit a.crcPoly (bitsLsb a.txPacket)) ++ junk := by
    rw [← txFrameBits_drop a r (by rw [hon, State.whiteen_congr hcfg]) (by rw [hiv, hdelivered]; rfl), ← hbits,
      hdelivered]
    rfl
  have hrxLen : r.rxLen = a.ramByte (a.packetPtr + 1) := byteAt_rxPlain_of_sent hsent (by decide) (by omega)
  have hlen : a.txPacket.length = 2 + r.rxLen.toNat := by rw [hrxLen, hcount]
  have hmax : r.rxLen.toNat ≤ r.maxlen := by rwa [hrxLen, State.maxlen_congr hcfg]
  have hcrc : crc24 a.crcInit a.crcPoly (bitsLsb a.txPacket) = crc24 r.crcReg r.crcPoly (bitsLsb a.txPacket) := by
    rw [State.crcPoly_congr hcfg, hinit, hpoly, hdelivered]
    rfl
  have hok := rxCrcOk_of_sent hsent hlen hmax hcrc
  have hram : r.rxPayloadStep.rxCrcStep.ram = writeBytes b.ram b.packetPtr a.txPacket := by
    rw [rxCrcStep_ram_of_sent hsent hlen hmax, State.packetPtr_congr hcfg, hdelivered]
    rfl
  refine ⟨r.rxPayloadStep.rxCrcStep, ?run, ?bytes, ?rxCrc, (State.rxCrcStep_crcStatus _).trans hok, ?crcok, ?crcerror,
    fun x hx => ?outside⟩
  case run =>
    rw [airStep_of_heard (nextAir_of_cons hair) hears, ← hdelivered,
      radioRun_succ (radioStep_of_rx_payload hpowered hrx (by rw [hdelivered]; rfl)),
      radioRun_succ (radioStep_of_rx_crc (s := r.rxPayloadStep) hpowered hrx rfl)]
    rfl
  case bytes => rw [← hcount]; exact ramBytes_of_written hram
  case rxCrc => rw [State.rxCrcStep_rxCrc, rxCrcValue_of_sent hsent hlen hmax]
  case crcok => simp [hok, EventFile.set]
  case crcerror =>
    have hevents : r.events = b.events.set .address true := hdelivered ▸ rfl
    simp [hok, hevents, EventFile.set]
  case outside => exact ramByte_of_outside hram (by rwa [hcount])

end Sys2Proof.Machine
end

section
/-!
PROOFS. A radio that waits (R191, R224): what any turn but RADIO's own leaves of a radio outside DISABLED, and why phase
DONE, TXIDLE and RXIDLE last.
-/

namespace Sys2Proof.Machine

/-! ### Turns that do not disturb the radio -/

/-- What RADIO's step table looks at, and the event flags. -/
structure Working where
  powered : Bool
  cfg : RegFile Word
  radioState : RadioState
  phase : Phase
  events : EventFile

/-- That part of a state. -/
def State.working (s : State) : Working :=
  { powered := s.powered
    cfg := s.cfg
    radioState := s.radioState
    phase := s.phase
    events := s.events }

/-- The radio is where it was, configured as it was, and no event flag has been set. -/
structure Undisturbed (s t : State) : Prop where
  powered : t.powered = s.powered
  cfg : t.cfg = s.cfg
  radioState : t.radioState = s.radioState
  phase : t.phase = s.phase
  events : ∀ e : Event, t.events.get e = true → s.events.get e = true

theorem Undisturbed.of_working {s t : State} (h : t.working = s.working) : Undisturbed s t := by
  obtain ⟨hp, hcfg, hr, hf, hev⟩ := Working.mk.inj h
  exact ⟨hp, hcfg, hr, hf, fun e he => hev ▸ he⟩

theorem Undisturbed.refl (s : State) : Undisturbed s s := .of_working rfl

theorem Undisturbed.trans {s t u : State} (h : Undisturbed s t) (h' : Undisturbed t u) : Undisturbed s u :=
  ⟨h'.powered.trans h.powered, h'.cfg.trans h.cfg, h'.radioState.trans h.radioState, h'.phase.trans h.phase,
    fun e he => h.events e (h'.events e he)⟩

theorem hostBlind_working : HostBlind State.working := by constructor <;> intros <;> rfl

theorem busy_of_radioState_ne_disabled {s : State} (h : s.radioState ≠ .disabled) : s.busy = true := by
  simp [State.busy, h]

/-- R179, R180, R184: of a radio outside DISABLED an instruction changes the state only by START, and it sets no event
flag. -/
theorem ExecEffect.undisturbed_or_start {s t : State} (h : ExecEffect s t) (hr : s.radioState ≠ .disabled) :
    Undisturbed s t ∨ ((s.radioState = .txidle ∨ s.radioState = .rxidle) ∧ t = s.startTask) := by
  have hbusy := busy_of_radioState_ne_disabled hr
  cases h with
  | start _ hidle => exact .inr ⟨hidle, rfl⟩
  | session kind _ _ hsession => exact absurd (sessionStart_next hsession).2.1 hr
  | write _ hb _ _ | pattern _ hb _ | noPattern _ hb | powerUp hb | powerDown hb => exact nomatch hb.symm.trans hbusy
  | clearEvent _ e =>
    refine .inl ⟨rfl, rfl, rfl, rfl, fun q hq => ?_⟩
    have hget : (if q = e then false else s.events.get q) = true := by simpa using hq
    split_ifs at hget
    exact hget
  | hfclk => exact .inl (.of_working (by simp [State.working]))
  | same | read _ | clearHfEvent | pdu _ => exact .inl (.of_working rfl)

/-- R137: AIR reaches a radio that searches, and no other. -/
theorem AirEffect.undisturbed {s t : State} (h : AirEffect s t)
    (hsearch : ¬ (s.radioState = .rx ∧ s.phase = .search)) : Undisturbed s t := by
  cases h with
  | silent | unheard => exact .of_working rfl
  | deliver f hears =>
    obtain ⟨-, hrx, hf, -, -⟩ := (hears_iff s f).mp hears
    exact absurd ⟨hrx, hf⟩ hsearch

theorem clockStep_undisturbed (s : State) : Undisturbed s (clockStep s) := by
  refine .of_working ?_
  unfold clockStep
  split <;> rfl

/-- R8: a radio outside DISABLED that neither waits for START nor searches is RADIO's own affair. -/
theorem agentStep_undisturbed {a : Agent} {s t : State} (h : agentStep a s = .next t) (ha : a ≠ .radio)
    (hr : s.radioState ≠ .disabled) (hidle : ¬ (s.radioState = .txidle ∨ s.radioState = .rxidle))
    (hsearch : ¬ (s.radioState = .rx ∧ s.phase = .search)) : Undisturbed s t := by
  cases a with
  | radio => exact absurd rfl ha
  | clock => cases h; exact clockStep_undisturbed s
  | air => cases h; exact (airStep_effect s).undisturbed hsearch
  | host =>
    obtain ⟨u, hu, ht⟩ := (hostStep_effect h).exec_of_ram_blind hostBlind_working fun _ _ => rfl
    obtain hkept | ⟨hwaiting, -⟩ := hu.undisturbed_or_start hr
    · exact hkept.trans (.of_working ht)
    · exact absurd hwaiting hidle

theorem undisturbed_beginTurn (s : State) : Undisturbed s s.beginTurn := .of_working rfl

/-! ### The one instruction that leaves TXIDLE and RXIDLE -/

/-- R104, R105: the register access of a statement, if it makes one. -/
def Stmt.access : Stmt → Option BusAccess
  | .bus a _ => some a
  | .poll a _ => some { a with dir := .rd }
  | _ => none

/-- R104, R105: a view of the state without RAM and HOST's bookkeeping changes by the instruction of the statement's
access only. -/
theorem runStmt_exec_or_kept {st : Stmt} {s t : State} (h : runStmt st s = .next t) {α : Type} {f : State → α}
    (hf : HostBlind f) (hram : ∀ s v, f { s with ram := v } = f s) :
    (∃ a i u, Stmt.access st = some a ∧ decodeAccess s.memMap a = .ok i ∧ exec i s = .next u ∧ f t = f u) ∨
      f t = f s := by
  cases st with
  | bus a bind =>
    obtain ⟨u, hu, rfl⟩ := andThen_next h
    obtain ⟨i, hi, hexec⟩ := busAccess_next hu
    exact .inl ⟨a, i, u, rfl, hi, hexec, hf.finishBus bind u⟩
  | poll a v =>
    obtain ⟨u, hu, rfl⟩ := andThen_next h
    obtain ⟨i, hi, hexec⟩ := busAccess_next hu
    exact .inl ⟨_, i, u, rfl, hi, hexec, hf.finishPoll v u⟩
  | store addr bytes =>
    obtain ⟨-, -, rfl⟩ := hostRam_next h
    exact .inr ((hf.hpc _ _).trans (hram s _))
  | storeWord addr v =>
    obtain ⟨-, -, rfl⟩ := hostRam_next h
    exact .inr ((hf.hpc _ _).trans (hram s _))
  | load addr n bind =>
    obtain ⟨-, -, rfl⟩ := hostRam_next h
    exact .inr ((hf.hpc _ _).trans (hf.byteVars s _))
  | goto target => cases h; exact .inr (hf.hpc s target)
  | ifGoto c target =>
    cases h
    refine .inr ?_
    split <;> exact hf.hpc s _
  | refuse r => cases h
  | pduDecode buf expected =>
    obtain ⟨u, hu, rfl⟩ := andThen_next h
    refine .inr ((hf.hpc u _).trans ?_)
    unfold State.runPduDecode at hu
    split at hu
    · rename_i i hi
      obtain ⟨length, advA, advData, rfl⟩ := decodePdu_ok hi
      cases hu
      exact (hf.pduResult { s with filterAddr := expected } _).trans (hf.filterAddr s expected)
    · cases hu
      exact (hf.pduResult { s with filterAddr := expected } _).trans (hf.filterAddr s expected)
  | returnOk | returnRejected | returnReceived _ _ _ => cases h; exact .inr ((hf.hpc _ _).trans (hf.result s _))

/-- R184: of a radio that is not DISABLED every instruction but START with bit 0 set leaves the state. -/
theorem exec_undisturbed {i : Instr} {s t : State} (h : exec i s = .next t) (hr : s.radioState ≠ .disabled)
    (hstart : ∀ d : Word, d.getLsbD 0 = true → i ≠ .tasksStart (.wr d)) : Undisturbed s t := by
  obtain hkept | ⟨hidle, rfl⟩ := (exec_effect h).undisturbed_or_start hr
  · exact hkept
  · have hdown : ∀ d : Word, d.getLsbD 0 = false → i ≠ .power (.wr d) := by
      rintro d - rfl
      rw [exec_power_of_busy (busy_of_radioState_ne_disabled hr)] at h
      cases h
    have hkept := (exec_plain h hstart hdown).radio.resolve_right fun hdisabled => hr hdisabled.1
    obtain hidle | hidle := hidle
    · rw [startTask_of_txidle hidle, hidle] at hkept
      cases hkept
    · rw [startTask_of_rxidle hidle, hidle] at hkept
      cases hkept

/-- R90: a read access decodes to no write. -/
theorem decodeAccess_rd_ne_start {m : MemMap} {a : BusAccess} (ha : a.dir = .rd) (d : Word) :
    decodeAccess m a ≠ .ok (.tasksStart (.wr d)) := by
  intro h
  obtain ⟨-, -, row, hrow, -, -, hi⟩ := decodeAccess_ok h
  have hop := (RegRow.listed_of_mem row hrow).op a.op
  rw [← hi] at hop
  have hrd : a.op = .rd := by simp only [BusAccess.op, ha]
  rw [hrd] at hop
  cases hop

/-- R184: HOST's turn leaves a radio outside DISABLED where it is, unless the statement writes 1 to TASKS_START. -/
theorem hostStep_undisturbed {s t : State} (h : hostStep s = .next t) (hr : s.radioState ≠ .disabled)
    (hstart : ∀ (a : BusAccess) (bind : Option Nat) (d : Word), s.script[s.hpc]? = some (.bus a bind) →
      decodeAccess s.memMap a = .ok (.tasksStart (.wr d)) → d.getLsbD 0 = false) : Undisturbed s t := by
  unfold hostStep at h
  split at h
  · rename_i st hst
    obtain ⟨a, i, u, ha, hi, hexec, hview⟩ | hview := runStmt_exec_or_kept h hostBlind_working fun _ _ => rfl
    · refine (exec_undisturbed hexec hr ?_).trans (.of_working hview)
      rintro d hd rfl
      cases st with
      | bus b bind =>
        cases ha
        exact nomatch (hstart a bind d hst hi).symm.trans hd
      | poll b v => cases ha; exact decodeAccess_rd_ne_start rfl d hi
      | _ => cases ha
    · exact .of_working hview
  · cases h; exact .refl s

/-! ### RADIO's own turn -/

/-- R191: no row of the step table leaves phase DONE. -/
theorem RadioEffect.of_done {s t : State} (h : RadioEffect s t) (hr : s.radioState = .tx ∨ s.radioState = .rx)
    (hf : s.phase = .done) : t = s := by
  cases h with
  | idle => rfl
  | rampUpTx _ hr' | rampUpRx _ hr' => simp [hr'] at hr
  | disable _ hr' => obtain hr' | hr' := hr' <;> simp [hr'] at hr
  | txAddr _ _ hf' | txPayload _ _ hf' _ | txCrc _ _ hf' | txCte _ _ hf' | rxPayload _ _ hf' | rxCrc _ _ hf'
  | rxCte _ _ hf' => exact nomatch hf.symm.trans hf'

theorem radioStep_of_idle {s : State} (hr : s.radioState = .txidle ∨ s.radioState = .rxidle) :
    radioStep s = .next s := by
  unfold radioStep
  obtain hr | hr := hr <;> simp [hr]

/-- Settles O20: RADIO's own turn stays, AIR and CLOCK do not reach such a radio, and of HOST's instructions only START
does. -/
theorem aRadioThatIsDoneHangs : Obligations.ARadioThatIsDoneHangs := by
  refine ⟨fun s t hr hf h => ?done, fun s t hr hstart h => ?idle⟩
  case done =>
    obtain ⟨-, -, hturn⟩ := step_next h
    have hkept : Undisturbed s t := by
      refine (undisturbed_beginTurn s).trans ?_
      by_cases ha : s.nextAgent = .radio
      · rw [ha] at hturn
        rw [(radioStep_effect hturn).of_done hr hf]
        exact .refl _
      · refine agentStep_undisturbed hturn ha ?_ ?_ ?_ <;> obtain hr | hr := hr <;> simp [hr, hf]
    exact ⟨hkept.radioState, hkept.phase.trans hf, hkept.events⟩
  case idle =>
    obtain ⟨-, -, hturn⟩ := step_next h
    have hkept : Undisturbed s t := by
      refine (undisturbed_beginTurn s).trans ?_
      cases ha : s.nextAgent with
      | host =>
        rw [ha] at hturn
        exact hostStep_undisturbed hturn (by obtain hr | hr := hr <;> simp [hr]) (hstart ha)
      | radio =>
        rw [ha] at hturn
        cases (radioStep_of_idle (s := s.beginTurn) hr).symm.trans hturn
        exact .refl _
      | clock =>
        rw [ha] at hturn
        cases hturn
        exact clockStep_undisturbed _
      | air =>
        rw [ha] at hturn
        cases hturn
        exact (airStep_effect _).undisturbed (by obtain hr | hr := hr <;> simp [hr])
    exact ⟨hkept.radioState, hkept.events⟩

end Sys2Proof.Machine
end

section
/-!
PROOFS. Progress in a fair run (R8): an enabled step is taken, unless the run stops, and each of RADIO's steps brings a
transmission or a reception nearer to its end.
-/

namespace Sys2Proof.Machine

/-! ### What fairness gives -/

/-- R270, R271: a step completes, or the run has stopped after it. -/
theorem settle_step (s : State) :
    (∃ t, step s = .next t ∧ s.settle (step s) = t) ∨ (s.settle (step s)).stopped = true := by
  cases h : step s with
  | next t => exact .inl ⟨t, rfl, rfl⟩
  | fault f => exact .inr (by simp [State.settle, State.stopped])
  | refused r => exact .inr (by simp [State.settle, State.stopped])

/-- The run from `s` stops, or comes to a state with `Q`. -/
def State.leadsTo (s : State) (Q : State → Prop) : Prop :=
  ∃ m, (s.runState m).stopped = true ∨ Q (s.runState m)

/-- R8: what lasts until the agent's turn, and enables its step, leads to what that step brings. -/
theorem FairTo.leadsTo {a : Agent} {enabled : State → Bool} {s : State} (hfair : FairTo a enabled s)
    {P Q : State → Prop} (henabled : ∀ x, P x → enabled x = true)
    (hother : ∀ x t, P x → x.nextAgent ≠ a → step x = .next t → P t)
    (hturn : ∀ x t, P x → x.nextAgent = a → step x = .next t → Q t) {n : Nat} (hn : P (s.runState n)) :
    s.leadsTo Q := by
  have hstep : ∀ k, P (s.runState k) → P (s.runState (k + 1)) ∧ (s.runState k).nextAgent ≠ a ∨ s.leadsTo Q := by
    intro k hk
    obtain ⟨t, ht, hsettle⟩ | hstopped := settle_step (s.runState k)
    · rw [← State.runState_succ] at hsettle
      by_cases ha : (s.runState k).nextAgent = a
      · exact .inr ⟨k + 1, .inr (hsettle ▸ hturn _ t hk ha ht)⟩
      · exact .inl ⟨hsettle ▸ hother _ t hk ha ht, ha⟩
    · exact .inr ⟨k + 1, .inl hstopped⟩
  have hreach : ∀ k, n ≤ k → P (s.runState k) ∨ s.leadsTo Q := by
    intro k hk
    induction hk with
    | refl => exact .inl hn
    | step _ ih =>
      obtain hP | hQ := ih
      · exact (hstep _ hP).imp_left And.left
      · exact .inr hQ
  obtain ⟨k, hnk, hserved⟩ := hfair n (henabled _ hn)
  obtain hP | hQ := hreach k hnk
  · obtain hstopped | ha := hserved
    · exact ⟨k, .inl hstopped⟩
    · exact (hstep k hP).resolve_left fun h => h.2 ha
  · exact hQ

/-! ### The HF clock -/

/-- R172: a clock that is starting comes to run. -/
theorem leadsTo_running {s : State} (hfair : FairTo .clock State.clockEnabled s) (hstarting : s.hfState = .starting) :
    s.leadsTo fun t => t.hfState = .running := by
  refine hfair.leadsTo (P := fun x => x.hfState = .starting) (fun x hx => decide_eq_true hx)
    (fun x t hx ha h => ?other) (fun x t hx ha h => ?turn) (n := 0) hstarting
  case other =>
    obtain ⟨-, -, hstep⟩ := step_next h
    obtain hkept | hoff | ⟨hclock, -, -⟩ := agentStep_hfState hstep
    · exact hkept.trans hx
    · exact nomatch hoff.symm.trans hx
    · exact absurd hclock ha
  case turn =>
    obtain ⟨-, -, hstep⟩ := step_next h
    rw [ha] at hstep
    cases hstep
    rw [clockStep_of_starting (s := x.beginTurn) hx]

/-! ### A session under way -/

/-- A session that RADIO's own steps bring to its end: one of them is enabled, and the shortcuts it needs are armed
(R189, R190, R191). -/
structure Ending (s : State) : Prop where
  enabled : s.radioEnabled = true
  not_rxru : s.radioState ≠ .rxru
  ready : s.radioState = .txru → s.readyStart = true
  phyend : s.phyendDisable = true

/-- RADIO's steps to the end of such a session. -/
def State.stepsLeft (s : State) : Nat :=
  match s.radioState, s.phase with
  | .txru, _ => 6
  | .tx, .addr => 5
  | .tx, .payload | .rx, .payload => 4
  | .tx, .crc | .rx, .crc => 3
  | .tx, .cte | .rx, .cte => 2
  | _, _ => 1

/-- R187: a session that has ended. -/
def Ended (s : State) : Prop := s.radioState = .disabled ∧ s.session = .none ∧ s.events.disabled = true

theorem Ending.of_undisturbed {s t : State} (hs : Ending s) (h : Undisturbed s t) :
    Ending t ∧ t.stepsLeft = s.stepsLeft := by
  refine ⟨⟨?_, ?_, fun hr => ?_, ?_⟩, ?_⟩
  · rw [State.radioEnabled, h.powered, h.radioState, h.phase]; exact hs.enabled
  · rw [h.radioState]; exact hs.not_rxru
  · rw [State.readyStart_congr h.cfg]; exact hs.ready (h.radioState ▸ hr)
  · rw [State.phyendDisable_congr h.cfg]; exact hs.phyend
  · rw [State.stepsLeft, State.stepsLeft, h.radioState, h.phase]

theorem Ending.of_radioState {s t : State} (hs : Ending s) (hcfg : t.cfg = s.cfg) (henabled : t.radioEnabled = true)
    (htxru : t.radioState ≠ .txru) (hrxru : t.radioState ≠ .rxru) : Ending t :=
  ⟨henabled, hrxru, fun hr => absurd hr htxru, (State.phyendDisable_congr hcfg).trans hs.phyend⟩

section

variable {s t : State} (hs : Ending s)
include hs

theorem Ending.powered : s.powered = true := by
  have h := hs.enabled
  rw [State.radioEnabled, Bool.and_eq_true] at h
  exact h.1

/-- R191: the phases PAYLOAD, CRC and CTE lead on in TX and in RX alike. -/
theorem Ending.within (hcfg : t.cfg = s.cfg) (hp : t.powered = s.powered) (hr : t.radioState = s.radioState)
    (hwork : s.radioState = .tx ∨ s.radioState = .rx) (hf : t.phase = .payload ∨ t.phase = .crc ∨ t.phase = .cte) :
    Ending t := by
  have henabled : t.radioEnabled = true := by
    rw [State.radioEnabled, hp, hs.powered, hr]
    obtain hr | hr := hwork <;> obtain hf | hf | hf := hf <;> simp [hr, hf]
  refine hs.of_radioState hcfg henabled ?_ ?_ <;> rw [hr] <;> obtain hr | hr := hwork <;> simp [hr]

/-- R134, R191: a step of the transmit phases is one step nearer to the end. -/
theorem Ending.txStep (hr : s.radioState = .tx) (h : s.txStep = .next t) : Ending t ∧ t.stepsLeft < s.stepsLeft := by
  have henabled := hs.enabled
  cases hf : s.phase <;> simp only [State.txStep, hf] at h
  case done | search => simp [State.radioEnabled, hr, hf] at henabled
  case addr =>
    cases h
    exact ⟨hs.within (by simp) (by simp) (by simp) (.inl hr) (by simp), by simp [State.stepsLeft, hr, hf]⟩
  case payload =>
    unfold State.txPayloadStep at h
    split at h <;> cases h
    exact ⟨hs.within (by simp) (by simp) (by simp) (.inl hr) (by simp), by simp [State.stepsLeft, hr, hf]⟩
  case crc =>
    cases h
    exact ⟨hs.within (by simp) (by simp) (by simp) (.inl hr) (by simp), by simp [State.stepsLeft, hr, hf]⟩
  case cte =>
    cases h
    rw [txCteStep_eq hr, hs.phyend, if_pos rfl]
    exact ⟨hs.of_radioState rfl (by simp [State.radioEnabled, hs.powered]) nofun nofun,
      by simp [State.stepsLeft, hr, hf]⟩

/-- R138, R139, R242, R191: a step of the receive phases is one step nearer to the end. -/
theorem Ending.rxStep (hr : s.radioState = .rx) (h : s.rxStep = .next t) : Ending t ∧ t.stepsLeft < s.stepsLeft := by
  have henabled := hs.enabled
  cases hf : s.phase <;> simp only [State.rxStep, hf] at h <;> cases h
  case done | search | addr => simp [State.radioEnabled, hr, hf] at henabled
  case payload | crc =>
    exact ⟨hs.within (by simp) (by simp) (by simp) (.inr hr) (by simp), by simp [State.stepsLeft, hr, hf]⟩
  case cte =>
    rw [rxCteStep_eq hr, hs.phyend, if_pos rfl]
    exact ⟨hs.of_radioState s.iqCapture_cfg (by simp [State.radioEnabled, hs.powered]) nofun nofun,
      by simp [State.stepsLeft, hr, hf]⟩

/-- R187, R189, R191: RADIO's turn ends such a session or brings it one step nearer to its end. -/
theorem Ending.radioStep (h : radioStep s = .next t) : Ended t ∨ (Ending t ∧ t.stepsLeft < s.stepsLeft) := by
  have hp := hs.powered
  have henabled := hs.enabled
  cases hr : s.radioState
  case disabled | txidle | rxidle => simp [State.radioEnabled, hr] at henabled
  case rxru => exact absurd hr hs.not_rxru
  case txru =>
    rw [radioStep_of_txru hp hr] at h
    cases h
    rw [rampUp_txidle_of_shortcut (hs.ready hr)]
    exact .inr ⟨hs.of_radioState rfl (by simp [State.radioEnabled, hp]) nofun nofun, by simp [State.stepsLeft, hr]⟩
  case tx =>
    rw [radioStep_of_tx hp hr] at h
    exact .inr (hs.txStep hr h)
  case rx =>
    rw [radioStep_of_rx hp hr] at h
    exact .inr (hs.rxStep hr h)
  case txdisable | rxdisable =>
    rw [radioStep_of_disabling hp (by simp [hr])] at h
    cases h
    exact .inl ⟨rfl, rfl, by simp [EventFile.set]⟩

/-- R191: the other agents leave such a session as it is. -/
theorem Ending.other {a : Agent} (ha : a ≠ .radio) (h : agentStep a s = .next t) :
    Ending t ∧ t.stepsLeft = s.stepsLeft := by
  have henabled := hs.enabled
  refine hs.of_undisturbed (agentStep_undisturbed h ha ?_ ?_ ?_)
  · intro hr
    simp [State.radioEnabled, hr] at henabled
  · rintro (hr | hr) <;> simp [State.radioEnabled, hr] at henabled
  · rintro ⟨hr, hf⟩
    simp [State.radioEnabled, hr, hf] at henabled

end

/-- The start of a turn is no step of the session. -/
theorem Ending.beginTurn {s : State} (hs : Ending s) : Ending s.beginTurn ∧ s.beginTurn.stepsLeft = s.stepsLeft :=
  hs.of_undisturbed (undisturbed_beginTurn s)

/-- R8, R191: such a session comes to its end, by the steps that are left. -/
theorem Ending.leadsTo_ended {s : State} (hfair : FairTo .radio State.radioEnabled s) (k : Nat) :
    ∀ n, Ending (s.runState n) → (s.runState n).stepsLeft = k → s.leadsTo Ended := by
  induction k using Nat.strong_induction_on with
  | _ k ih =>
    intro n hn hk
    have hnearer : s.leadsTo fun t => Ended t ∨ (Ending t ∧ t.stepsLeft < k) := by
      refine hfair.leadsTo (P := fun x => Ending x ∧ x.stepsLeft = k) (fun x hx => hx.1.enabled)
        (fun x t hx ha h => ?other) (fun x t hx ha h => ?turn) ⟨hn, hk⟩
      case other =>
        obtain ⟨hending, hleft⟩ := hx.1.beginTurn
        obtain ⟨-, -, hstep⟩ := step_next h
        obtain ⟨ht, hsame⟩ := hending.other ha hstep
        exact ⟨ht, hsame.trans (hleft.trans hx.2)⟩
      case turn =>
        obtain ⟨hending, hleft⟩ := hx.1.beginTurn
        obtain ⟨-, -, hstep⟩ := step_next h
        rw [ha] at hstep
        rw [← hx.2, ← hleft]
        exact hending.radioStep hstep
    obtain ⟨m, hstopped | hended | ⟨hending, hless⟩⟩ := hnearer
    · exact ⟨m, .inl hstopped⟩
    · exact ⟨m, .inr hended⟩
    · exact ih _ hless m hending rfl

/-- Settles O7: the clock by its one step, the session by its steps left. -/
theorem fairRunsMakeProgress : Obligations.FairRunsMakeProgress := by
  rintro s ⟨hradio, hclock⟩
  exact ⟨leadsTo_running hclock, fun henabled hrxru hready hphyend =>
    Ending.leadsTo_ended hradio _ 0 ⟨henabled, hrxru, hready, hphyend⟩ rfl⟩

end Sys2Proof.Machine
end
